-- ==== Sys2Proof/Word.lean ====
section
/-! DEFINITION. The words of the SBF block: the packed pixel, the four channels and a value per channel. -/

namespace Sys2Proof

/-- A packed pixel word (30_encoding R80): alpha 31:24, red 23:16, green 15:8, blue 7:0. Every value is legal (R81). -/
abbrev Pixel := BitVec 32

/-- The four channels in the order of decreasing bit position (00_scope R11). -/
inductive Channel where
  | A
  | R
  | G
  | B
deriving DecidableEq, Repr

/-- One value of `w` bits per channel: a register file indexed by channel (00_scope R11, 42_accumulator R134). -/
@[ext]
structure Lanes (w : Nat) where
  a : BitVec w
  r : BitVec w
  g : BitVec w
  b : BitVec w
deriving DecidableEq, Repr

/-- `X[c]` of a register file `X`. -/
def Lanes.get {w : Nat} (l : Lanes w) : Channel → BitVec w
  | .A => l.a
  | .R => l.r
  | .G => l.g
  | .B => l.b

/-- The same value in every lane. -/
def Lanes.splat {w : Nat} (v : BitVec w) : Lanes w := ⟨v, v, v, v⟩

/-- The same function in every lane (42_accumulator R134: no operation across lanes). -/
def Lanes.map {w v : Nat} (f : BitVec w → BitVec v) (l : Lanes w) : Lanes v :=
  ⟨f l.a, f l.r, f l.g, f l.b⟩

/-- The same two-place function in every lane. -/
def Lanes.zip {w v u : Nat} (f : BitVec w → BitVec v → BitVec u) (l : Lanes w) (k : Lanes v) : Lanes u :=
  ⟨f l.a k.a, f l.r k.r, f l.g k.g, f l.b k.b⟩

end Sys2Proof
end

