-- ==== Sys2Proof/Config.lean ====
section
/-! DEFINITION. What an instance of the block fixes (CAP, EVICT, FLT: 00_scope R8) and the free values of what the
spec leaves unspecified. -/

namespace Sys2Proof

/-- The eviction admission test of the sliding window (44_line_filter R164): evict index `j` when `j ≥ 0`, or when
`j > 0`. Both are fully specified; `ge0` is the spec's default. -/
inductive Evict where
  | ge0
  | gt0
deriving DecidableEq, Repr

/-- The parameters of the block, fixed for the lifetime of an instance (00_scope R8). `lastIndex` is CAP − 1, so that
the 32-bit field holds exactly the values CAP may take, 1 to 2^32. -/
structure Config where
  lastIndex : BitVec 32
  evict : Evict
deriving DecidableEq, Repr

/-- CAP: how many words BUF and SCR hold (00_scope R8, 20_memory R51). -/
def Config.cap (c : Config) : Nat := c.lastIndex.toNat + 1

/-- The instance `State.reset` stands for. DESIGN CHOICE (log 1): the spec gives CAP no default; 2^32 is its largest
value. EVICT is the spec's default GE0 (log 2). Statements are for every configuration. -/
def Config.default : Config := { lastIndex := 0xFFFFFFFF#32, evict := .ge0 }

/-- FREE VALUE (log 5): the word of BUF at an index that nothing has written since BUF last became unspecified
(10_state R35, 93_implementation_defined U1: any value, fixed when read). First argument: which draw; second: the index. -/
opaque Config.unwrittenBuf : Nat → Nat → BitVec 32

/-- FREE VALUE (log 6): the word of SCR at an index that nothing has written since the current APPLY began
(10_state R36, 20_memory R56, 93_implementation_defined U3). First argument: which draw; second: the index. -/
opaque Config.unwrittenScr : Nat → Nat → BitVec 32

/-- A blur strength sigma within ESTR's contract (40_radius_estimator R114: finite and non-negative): the rational
`num / den`, `den ≠ 0`. Every value of a binary or decimal floating-point format is one. -/
structure Sigma where
  num : Nat
  den : Nat
deriving DecidableEq, Repr

/-- The sigma is a number: its denominator is not 0. -/
abbrev Sigma.Valid (x : Sigma) : Prop := x.den ≠ 0

/-- `x ≤ y` as numbers, by cross multiplication. -/
abbrev Sigma.le (x y : Sigma) : Prop := x.num * y.den ≤ y.num * x.den

/-- The parameter FLT (00_scope R8): how a host evaluates the estimator. The spec assumes of it only a result in 1 to
100 and monotonicity (40_radius_estimator R113, R115). Log 16. -/
structure Estimator where
  eval : Sigma → Nat
  range : ∀ x, x.Valid → 1 ≤ eval x ∧ eval x ≤ 100
  mono : ∀ x y, x.Valid → y.Valid → x.le y → eval x ≤ eval y

end Sys2Proof
end

