-- ==== Sys2Proof/Syntax.lean ====
section
/-! DEFINITION. The twelve encoded operations of the block: one constructor per row of spec/opcode_table.json. -/

namespace Sys2Proof

/-- The two data address spaces (20_memory R50); in a bundle `m = 0` is BUF and `m = 1` is SCR (30_encoding R86). -/
inductive Space where
  | buf
  | scr
deriving DecidableEq, Repr

/-- The operations with an encoding: four host commands of Format H (30_encoding R87) and eight micro-operations of
Format U (R88). -/
inductive Instr where
  /-- SETW n (45 R190). -/
  | setw (imm16 : BitVec 16)
  /-- SETH n (45 R191). -/
  | seth (imm16 : BitVec 16)
  /-- SETR n (45 R192). -/
  | setr (imm16 : BitVec 16)
  /-- APPLY (45 R196). -/
  | apply
  /-- LDP s, i (43 R150). -/
  | ldp (m : Space) (idx : BitVec 32)
  /-- STP s, i (43 R151). -/
  | stp (m : Space) (idx : BitVec 32)
  /-- UNPK (41 R120). -/
  | unpk
  /-- PACK (41 R121). -/
  | pack
  /-- WCLR (42 R130). -/
  | wclr
  /-- WADD (42 R131). -/
  | wadd
  /-- WSUB (42 R132). -/
  | wsub
  /-- WDIV (42 R133). -/
  | wdiv
deriving DecidableEq, Repr

/-- The operation is a host command: it travels on the CMD port in Format H (30_encoding R85). -/
def Instr.isCommand : Instr → Bool
  | .setw _ => true
  | .seth _ => true
  | .setr _ => true
  | .apply => true
  | .ldp _ _ => false
  | .stp _ _ => false
  | .unpk => false
  | .pack => false
  | .wclr => false
  | .wadd => false
  | .wsub => false
  | .wdiv => false

end Sys2Proof
end

