-- ==== Sys2Proof/Machine/State.lean ====
section
/-! DEFINITION. The state of the block (10_state R20), the reasons a step can stop, and the state after reset. -/

namespace Sys2Proof.Machine

/-- One written word of a space: its pixel index and its 32-bit word. Memory is addressed by whole words and has no byte
view (20_memory R50, R57, R59; log 11). -/
abbrev Cell := Nat × BitVec 32

/-- The contents of a space: the words that have been written, indices strictly rising. An index not listed is a word
that nothing has written (logs 5 and 6). -/
abbrev Memory := List Cell

/-- The canonical form: indices strictly rising. (An unlisted index has no value of its own, so no entry can repeat it.) -/
def Memory.wf : Memory → Bool
  | [] => true
  | [_] => true
  | (i, _) :: (j, v) :: m => decide (i < j) && Memory.wf ((j, v) :: m)

/-- A move of the host while the block is idle (20_memory R67; log 9). -/
inductive HostMove where
  /-- The host writes the word `c` to the CMD port. -/
  | cmd (c : BitVec 32)
  /-- HostRead(i) through the PIX port (20_memory R55). -/
  | pixRead (i : BitVec 32)
  /-- HostWrite(i, v) through the PIX port (20_memory R55). -/
  | pixWrite (i : BitVec 32) (v : BitVec 32)
  /-- RegRead(n) through the REG port (10_state R40). -/
  | regRead (n : BitVec 32)
  /-- The reset event (70_reset R250). -/
  | reset
deriving DecidableEq, Repr

/-- What reaches the block while an APPLY runs (20_memory R67: the host may only read registers; 70_reset R250: reset may
occur at any time; log 20). -/
inductive BusyMove where
  /-- Nothing: the block executes one micro-op. -/
  | blockRuns
  /-- RegRead(n) through the REG port. -/
  | regRead (n : BitVec 32)
  /-- The reset event. -/
  | reset
deriving DecidableEq, Repr

/-- The state of the block. The fields from `width` to `scr` are the spec's complete list (10_state R20); `cfg` is its
configuration (00_scope R8); the fields from `stream` on are the model's own (INVENTORY.md, State). -/
structure State where
  /-- CAP and EVICT, fixed for the lifetime of an instance (00_scope R8). -/
  cfg : Config
  /-- WIDTH, register 0 (10_state R21). -/
  width : BitVec 16
  /-- HEIGHT, register 1 (10_state R22). -/
  height : BitVec 16
  /-- RADIUS, register 2 (10_state R23). -/
  radius : BitVec 16
  /-- STATUS, register 3 (10_state R25); its fields are read and written in Machine/Flags.lean. -/
  status : BitVec 32
  /-- PX, the pixel latch (10_state R30). -/
  px : BitVec 32
  /-- CH[A,R,G,B], the channel latches (10_state R31). -/
  ch : Lanes 8
  /-- Q[A,R,G,B], the quotient latches (10_state R32). -/
  q : Lanes 8
  /-- ACC[A,R,G,B], the accumulators (10_state R28). -/
  acc : Lanes 32
  /-- CNT, the count of the window (10_state R29). -/
  cnt : BitVec 32
  /-- UPC, the sequencer position (10_state R34). -/
  upc : Nat
  /-- BUF, the pixel buffer (10_state R35). -/
  buf : Memory
  /-- SCR, the scratch memory (10_state R36). -/
  scr : Memory
  /-- The micro-op stream S that UPC indexes (10_state R34), as bundles (30_encoding R84; log 10). -/
  stream : List (BitVec 40)
  /-- Which draw of free values BUF's unwritten words hold (log 5). -/
  bufDraw : Nat
  /-- Which draw of free values SCR's unwritten words hold (log 6). -/
  scrDraw : Nat
  /-- What the host does next while the block is idle (log 9). -/
  moves : List HostMove
  /-- What reaches the block next while an APPLY runs (log 20). -/
  meanwhile : List BusyMove
  /-- The value the last REG or PIX read gave the host (log 9). -/
  reply : Option (BitVec 32)
deriving DecidableEq, Repr

/-- The reasons the machine stops with a fault. The block's own three causes (60_exceptions R220) are none of these: they
are written to STATUS and the machine goes on. -/
inductive Fault where
  /-- Raised by LDP, STP, HostRead and HostWrite at an index of CAP or more, which names no word (20_memory R51). The spec
  gives such an access no result and has a model refuse it (20_memory R55; 93_implementation_defined U11). No access of an
  APPLY raises it (43_pixel_access R153). Safe: no next state is claimed (log 7). -/
  | noSuchWord (space : Space) (index : BitVec 32)
deriving DecidableEq, Repr

/-- The reasons an instruction has no meaning. -/
inductive Refusal where
  /-- An instruction whose meaning is not written yet, by its mnemonic; raised by exec's refused arms (there is none).
  Safe. -/
  | notModelled (mnemonic : String)
  /-- Raised by the step at a bundle that spells no micro-op: it is never generated and has no defined behaviour
  (30_encoding R91); a model that decodes bundles refuses it (93_implementation_defined U8). Safe (log 8). -/
  | unassignedBundle (u : BitVec 40)
deriving DecidableEq, Repr

/-- The state after reset of the instance `c` (10_state R38, 70_reset R250). The latches and UPC, to which the spec gives
no reset value, are 0 (DESIGN CHOICE, logs 3 and 4); nothing is written in BUF or SCR (logs 5 and 6). -/
def State.resetWith (c : Config) : State :=
  { cfg := c
    width := 0#16
    height := 0#16
    radius := 0#16
    status := 0x00000000#32
    px := 0#32
    ch := Lanes.splat 0#8
    q := Lanes.splat 0#8
    acc := Lanes.splat 0#32
    cnt := 0#32
    upc := 0
    buf := []
    scr := []
    stream := []
    bufDraw := 0
    scrDraw := 0
    moves := []
    meanwhile := []
    reply := none }

/-- The machine right after reset. -/
def State.reset : State := State.resetWith Config.default

end Sys2Proof.Machine
end

