-- ==== Sys2Proof/Machine/Flags.lean ====
section
/-! DEFINITION. STATUS and its fields (10_state R25 to R27): the only flags of the block. -/

namespace Sys2Proof.Machine

/-- `st` with the `w` bits from bit `lo` up replaced by `v`, every other bit kept. -/
def insertField {w : Nat} (st : BitVec 32) (lo : Nat) (v : BitVec w) : BitVec 32 :=
  (st &&& ~~~((BitVec.allOnes w).setWidth 32 <<< lo)) ||| (v.setWidth 32 <<< lo)

/-- STATUS bit 0, BUSY (10_state R25). -/
def statusBusy (st : BitVec 32) : Bool := st.getLsbD 0

/-- STATUS bit 1, FAULT (10_state R25). -/
def statusFault (st : BitVec 32) : Bool := st.getLsbD 1

/-- STATUS bits 7:4, CAUSE (10_state R25). -/
def statusCause (st : BitVec 32) : BitVec 4 := st.extractLsb' 4 4

/-- STATUS bits 11:8, INFO (10_state R25). -/
def statusInfo (st : BitVec 32) : BitVec 4 := st.extractLsb' 8 4

/-- The bits of STATUS that are not reserved: 11:4, 1 and 0 (10_state R25). -/
def statusMask : BitVec 32 := 0x00000FF3#32

/-- STATUS.BUSY ← b. -/
def statusWithBusy (st : BitVec 32) (b : Bool) : BitVec 32 := insertField st 0 (BitVec.ofBool b)

/-- STATUS.FAULT ← b. -/
def statusWithFault (st : BitVec 32) (b : Bool) : BitVec 32 := insertField st 1 (BitVec.ofBool b)

/-- STATUS.CAUSE ← v. -/
def statusWithCause (st : BitVec 32) (v : BitVec 4) : BitVec 32 := insertField st 4 v

/-- STATUS.INFO ← v. -/
def statusWithInfo (st : BitVec 32) (v : BitVec 4) : BitVec 32 := insertField st 8 v

/-- The block is executing an APPLY (10_state R26). -/
def State.busy (s : State) : Bool := statusBusy s.status

/-- A fault has been raised since reset (10_state R27). -/
def State.faulted (s : State) : Bool := statusFault s.status

/-- The code of the first fault since reset, 0 while there is none (10_state R27). -/
def State.cause (s : State) : BitVec 4 := statusCause s.status

/-- The detail of the first fault since reset (10_state R27). -/
def State.info (s : State) : BitVec 4 := statusInfo s.status

/-- The three fault causes of the block (60_exceptions R220). -/
inductive Cause where
  /-- Raised by APPLY: a radius outside 1 to 100, or an image larger than the memory (60 R221). -/
  | invalidArgument
  /-- Raised at the CMD port by a word that spells no command (60 R222). -/
  | illegalCommand
  /-- Raised by WDIV when CNT is 0 (60 R223). -/
  | divideByZero
deriving DecidableEq, Repr

/-- The code CAUSE holds for a cause (60_exceptions R220). -/
def Cause.code : Cause → BitVec 4
  | .invalidArgument => 1#4
  | .illegalCommand => 2#4
  | .divideByZero => 3#4

end Sys2Proof.Machine
end

