-- ==== Sys2Proof/WellFormed.lean ====
section
/-! DEFINITION. When an operation's operands name something that exists. Every field of an encoding is a bit vector of
the field's own width, so the one check left is that an index names a word of its space. -/

namespace Sys2Proof

/-- The index names a word: an index of CAP or more names none (20_memory R51). -/
def Config.holds (c : Config) (i : BitVec 32) : Bool := decide (i.toNat < c.cap)

/-- An operation is well formed on an instance when the word it loads or stores exists there: the precondition
`idx < CAP` of 93_implementation_defined U11. Every `imm16` is legal (30_encoding R93). -/
def Instr.wellFormed (c : Config) : Instr → Bool
  | .setw _ => true
  | .seth _ => true
  | .setr _ => true
  | .apply => true
  | .ldp _ i => c.holds i
  | .stp _ i => c.holds i
  | .unpk => true
  | .pack => true
  | .wclr => true
  | .wadd => true
  | .wsub => true
  | .wdiv => true

end Sys2Proof
end

