-- ==== Sys2Proof/Machine/Operands.lean ====
section
/-! DEFINITION. The operand forms of the block: the four channels of a pixel word (30_encoding R80, 41_pixel_codec R122)
and a word of a space named by a pixel index (30_encoding R86, 43_pixel_access R152). -/

namespace Sys2Proof.Machine

/-- `unpack(w) = (w[31:24], w[23:16], w[15:8], w[7:0])` (41_pixel_codec R122). -/
def unpack (w : BitVec 32) : Lanes 8 :=
  { a := w.extractLsb' 24 8
    r := w.extractLsb' 16 8
    g := w.extractLsb' 8 8
    b := w.extractLsb' 0 8 }

/-- `pack(a, r, g, b) = a ++ r ++ g ++ b` (41_pixel_codec R122). -/
def pack (l : Lanes 8) : BitVec 32 := l.a ++ l.r ++ l.g ++ l.b

/-- The value written in the list at an index, `none` where nothing is written. -/
def Memory.get? : Memory → Nat → Option (BitVec 32)
  | [], _ => none
  | (j, v) :: m, i => if i = j then some v else Memory.get? m i

/-- The list with the word at an index written, indices kept rising. -/
def Memory.set : Memory → Nat → BitVec 32 → Memory
  | [], i, v => [(i, v)]
  | (j, w) :: m, i, v =>
    if i < j then (i, v) :: (j, w) :: m
    else if i = j then (i, v) :: m
    else (j, w) :: Memory.set m i v

/-- The written words of a space. -/
def State.mem (s : State) : Space → Memory
  | .buf => s.buf
  | .scr => s.scr

/-- The free value a word of a space holds when nothing has written it (logs 5 and 6). -/
def State.unwritten (s : State) : Space → Nat → BitVec 32
  | .buf, i => Config.unwrittenBuf s.bufDraw i
  | .scr, i => Config.unwrittenScr s.scrDraw i

/-- `MemRead(m:i, 1)`: the most recent value written to the word, or its unspecified value when nothing has written it
(20_memory R61). This is the one read of memory. -/
def State.wordAt (s : State) (m : Space) (i : Nat) : BitVec 32 :=
  match Memory.get? (s.mem m) i with
  | some v => v
  | none => s.unwritten m i

/-- `MemWrite(m:i, 1, v)`. This is the one write of memory. -/
def State.putWord (s : State) (m : Space) (i : Nat) (v : BitVec 32) : State :=
  match m with
  | .buf => { s with buf := Memory.set s.buf i v }
  | .scr => { s with scr := Memory.set s.scr i v }

/-- WIDTH, HEIGHT and RADIUS as the numbers APPLY samples (45 R196). -/
def State.widthNat (s : State) : Nat := s.width.toNat

/-- HEIGHT as a number. -/
def State.heightNat (s : State) : Nat := s.height.toNat

/-- RADIUS as a number. -/
def State.radiusNat (s : State) : Nat := s.radius.toNat

end Sys2Proof.Machine
end

