-- ==== Sys2Proof/Decode.lean ====
section
/-! DEFINITION. The two formats and the opcode maps of 30_encoding: decoding, total and rejecting by name, and then
encoding, both written from R83 to R91. -/

namespace Sys2Proof

/-- A word on one of the two separate paths (30_encoding R85): a Format H command word on the CMD port, or a Format U
bundle from the sequencer to the datapath. -/
inductive Encoded where
  | command (c : BitVec 32)
  | bundle (u : BitVec 40)
deriving DecidableEq, Repr

/-- Why a word spells no operation. -/
inductive Reject where
  /-- Format H: `opc` is 0x0 or 0x5 to 0xF (30_encoding R90). -/
  | illegalOpcode (opc : BitVec 4)
  /-- Format H: `rsv` is not zero (R90). -/
  | commandReservedBits
  /-- Format H: APPLY with `imm16` not zero (R90). -/
  | applyImmediate
  /-- Format U: `uop` is 0x0 or 0x9 to 0xF (R88, R91). -/
  | unassignedMicroOp (uop : BitVec 4)
  /-- Format U: `rsv` is not zero (R84, R91). -/
  | bundleReservedBits
  /-- Format U: operand bits in a micro-op that has no operand (R84, R91). -/
  | unusedOperandBits
deriving DecidableEq, Repr

/-- What a decoder answers: an operation, or the reason there is none. -/
inductive Decoded where
  | instr (i : Instr)
  | rejected (r : Reject)
deriving DecidableEq, Repr

/-- The operation read, if any. -/
def Decoded.toOption : Decoded → Option Instr
  | .instr i => some i
  | .rejected _ => none

/-! ### Fields -/

/-- `opc = c[31:28]` (30_encoding R83). -/
def commandOpc (c : BitVec 32) : BitVec 4 := c.extractLsb' 28 4

/-- `rsv = c[27:16]` (R83). -/
def commandRsv (c : BitVec 32) : BitVec 12 := c.extractLsb' 16 12

/-- `imm16 = c[15:0]` (R83), used as it stands (R86). -/
def commandImm (c : BitVec 32) : BitVec 16 := c.extractLsb' 0 16

/-- `uop = u[39:36]` (30_encoding R84). -/
def bundleUop (u : BitVec 40) : BitVec 4 := u.extractLsb' 36 4

/-- `rsv = u[35:33]` (R84). -/
def bundleRsv (u : BitVec 40) : BitVec 3 := u.extractLsb' 33 3

/-- `m = u[32]` (R84). -/
def bundleM (u : BitVec 40) : BitVec 1 := u.extractLsb' 32 1

/-- `idx = u[31:0]` (R84), used as it stands (R86). -/
def bundleIdx (u : BitVec 40) : BitVec 32 := u.extractLsb' 0 32

/-- The space a bundle's `m` names: 0 BUF, 1 SCR (R86). -/
def spaceOfBit (m : BitVec 1) : Space := if m = 0#1 then .buf else .scr

/-- The bit `m` of a space (R86). -/
def bitOfSpace : Space → BitVec 1
  | .buf => 0#1
  | .scr => 1#1

/-! ### Decoding -/

/-- Decoding a command word: the host opcode map of 30_encoding R87, with the illegal words of R90 refused. -/
def decodeCommand (c : BitVec 32) : Decoded :=
  if commandRsv c ≠ 0#12 then .rejected .commandReservedBits
  else if commandOpc c = 0x1#4 then .instr (.setw (commandImm c))
  else if commandOpc c = 0x2#4 then .instr (.seth (commandImm c))
  else if commandOpc c = 0x3#4 then .instr (.setr (commandImm c))
  else if commandOpc c = 0x4#4 then
    if commandImm c = 0#16 then .instr .apply else .rejected .applyImmediate
  else .rejected (.illegalOpcode (commandOpc c))

/-- A micro-op without operands: `m` and `idx` are zero (30_encoding R84, R91). -/
def operandless (u : BitVec 40) (i : Instr) : Decoded :=
  if bundleM u = 0#1 ∧ bundleIdx u = 0#32 then .instr i else .rejected .unusedOperandBits

/-- Decoding a bundle: the micro-opcode map of 30_encoding R88, with what R91 leaves without meaning refused. -/
def decodeBundle (u : BitVec 40) : Decoded :=
  if bundleRsv u ≠ 0#3 then .rejected .bundleReservedBits
  else if bundleUop u = 0x1#4 then .instr (.ldp (spaceOfBit (bundleM u)) (bundleIdx u))
  else if bundleUop u = 0x2#4 then .instr (.stp (spaceOfBit (bundleM u)) (bundleIdx u))
  else if bundleUop u = 0x3#4 then operandless u .unpk
  else if bundleUop u = 0x4#4 then operandless u .pack
  else if bundleUop u = 0x5#4 then operandless u .wclr
  else if bundleUop u = 0x6#4 then operandless u .wadd
  else if bundleUop u = 0x7#4 then operandless u .wsub
  else if bundleUop u = 0x8#4 then operandless u .wdiv
  else .rejected (.unassignedMicroOp (bundleUop u))

/-- Decoding a word on its own path (30_encoding R85). -/
def decode : Encoded → Decoded
  | .command c => decodeCommand c
  | .bundle u => decodeBundle u

/-- The operation the decoder reads from the bits `w` of an opcode-table row of `nbits` bits: 32 for Format H, 40 for
Format U; there is no other length (30_encoding R85). -/
def decodeTableWord (nbits w : Nat) : Option Instr :=
  if nbits = 32 then (decodeCommand (BitVec.ofNat 32 w)).toOption
  else if nbits = 40 then (decodeBundle (BitVec.ofNat 40 w)).toOption
  else none

/-! ### Encoding -/

/-- `opc ++ rsv ++ imm16` with `rsv = 0` (30_encoding R83). -/
def commandWord (opc : BitVec 4) (imm16 : BitVec 16) : BitVec 32 := opc ++ 0#12 ++ imm16

/-- `uop ++ rsv ++ m ++ idx` with `rsv = 0` (30_encoding R84). -/
def bundleWord (uop : BitVec 4) (m : BitVec 1) (idx : BitVec 32) : BitVec 40 := uop ++ 0#3 ++ m ++ idx

/-- The word of an operation (30_encoding R87, R88). -/
def encode : Instr → Encoded
  | .setw n => .command (commandWord 0x1#4 n)
  | .seth n => .command (commandWord 0x2#4 n)
  | .setr n => .command (commandWord 0x3#4 n)
  | .apply => .command (commandWord 0x4#4 0#16)
  | .ldp m i => .bundle (bundleWord 0x1#4 (bitOfSpace m) i)
  | .stp m i => .bundle (bundleWord 0x2#4 (bitOfSpace m) i)
  | .unpk => .bundle (bundleWord 0x3#4 0#1 0#32)
  | .pack => .bundle (bundleWord 0x4#4 0#1 0#32)
  | .wclr => .bundle (bundleWord 0x5#4 0#1 0#32)
  | .wadd => .bundle (bundleWord 0x6#4 0#1 0#32)
  | .wsub => .bundle (bundleWord 0x7#4 0#1 0#32)
  | .wdiv => .bundle (bundleWord 0x8#4 0#1 0#32)

/-- The 40-bit bundle of a micro-op. A host command has none; it never stands in a stream, and the all-zero bundle given
for it is one that `decodeBundle` refuses. -/
def bundleOf (i : Instr) : BitVec 40 :=
  match encode i with
  | .bundle u => u
  | .command _ => 0#40

end Sys2Proof
end

