-- ==== Sys2Proof/Machine/Sequencer.lean ====
section
/-! DEFINITION. The separable sequencer: the expansion of LINE, HPASS, VPASS and APPLY into micro-ops (44_line_filter R170;
45_apply_and_host_commands R201 to R203). -/

namespace Sys2Proof.Machine

/-- The index of position `p` of a line, `base + p * stride`, as the bundle's 32-bit field (43_pixel_access R152). It never
wraps in a stream of APPLY (20_memory R53). -/
def lineIndex (base stride p : Nat) : BitVec 32 := BitVec.ofNat 32 (base + p * stride)

/-- `ADMIT(i)`: LDP, UNPK, WADD (44 R170). -/
def uopsAdmit (ms : Space) (base stride i : Nat) : List Instr :=
  [.ldp ms (lineIndex base stride i), .unpk, .wadd]

/-- `EVICT(i)`: LDP, UNPK, WSUB (44 R170). -/
def uopsEvict (ms : Space) (base stride i : Nat) : List Instr :=
  [.ldp ms (lineIndex base stride i), .unpk, .wsub]

/-- `EMIT(p)`: WDIV, PACK, STP (44 R170). -/
def uopsEmit (md : Space) (base stride p : Nat) : List Instr :=
  [.wdiv, .pack, .stp md (lineIndex base stride p)]

/-- The eviction test on `j = p - r - 1` over the integers: `j ≥ 0` under GE0, `j > 0` under GT0 (44 R164). -/
def evictable (e : Evict) (r p : Nat) : Bool :=
  match e with
  | .ge0 => decide (r + 1 ≤ p)
  | .gt0 => decide (r + 1 < p)

/-- One step of the slide: admission before eviction before emission, the first two only for `p ≥ 1` (44 R163, R170; the
corrected admission clause of 90_conflicts C1). -/
def uopsSlide (e : Evict) (ms md : Space) (base stride n r p : Nat) : List Instr :=
  (if 1 ≤ p ∧ p + r < n then uopsAdmit ms base stride (p + r) else []) ++
  (if 1 ≤ p ∧ evictable e r p = true then uopsEvict ms base stride (p - r - 1) else []) ++
  uopsEmit md base stride p

/-- `uops_LINE(ms, md, base, stride, n, r)` (44 R170). -/
def uopsLine (e : Evict) (ms md : Space) (base stride n r : Nat) : List Instr :=
  .wclr ::
    ((List.range (min r (n - 1) + 1)).flatMap (uopsAdmit ms base stride) ++
     (List.range n).flatMap (uopsSlide e ms md base stride n r))

/-- `uops_HPASS(W, H, r)`: the rows, ascending, from BUF into SCR (45 R202). -/
def uopsHpass (e : Evict) (W H r : Nat) : List Instr :=
  (List.range H).flatMap fun y => uopsLine e .buf .scr (y * W) 1 W r

/-- `uops_VPASS(W, H, r)`: the columns, ascending, from SCR into BUF (45 R203). -/
def uopsVpass (e : Evict) (W H r : Nat) : List Instr :=
  (List.range W).flatMap fun x => uopsLine e .scr .buf x W H r

/-- `uops_APPLY(W, H, r)` (45 R201). -/
def uopsApply (e : Evict) (W H r : Nat) : List Instr :=
  uopsHpass e W H r ++ uopsVpass e W H r

/-- The stream as the bundles the sequencer passes to the datapath (30_encoding R84). -/
def bundlesApply (e : Evict) (W H r : Nat) : List (BitVec 40) :=
  (uopsApply e W H r).map bundleOf

/-- The number of evictions of a line (44 R172). -/
def evictions (e : Evict) (n r : Nat) : Nat :=
  match e with
  | .ge0 => n - 1 - r
  | .gt0 => n - 2 - r

/-- `length(uops_LINE) = 1 + 6n + 3E` (44 R172), a cost measure and no time (70_reset R267). -/
def lineCost (e : Evict) (n r : Nat) : Nat := 1 + 6 * n + 3 * evictions e n r

/-- The number of micro-ops of an APPLY (45 R201). -/
def applyCost (e : Evict) (W H r : Nat) : Nat := H * lineCost e W r + W * lineCost e H r

end Sys2Proof.Machine
end

