-- ==== Sys2Proof/Machine/Ops.lean ====
section
/-! DEFINITION. The named operations over registers and memory: the register updates, loading and storing a word, raising a
fault (60_exceptions R226), starting and completing an APPLY, and the reset event. -/

namespace Sys2Proof.Machine

/-- The outcome of a step or of a meaning. -/
abbrev Result := Host.Outcome State Fault Refusal

/-! ### Register updates -/

/-- WIDTH ← v. -/
def State.withWidth (s : State) (v : BitVec 16) : State := { s with width := v }

/-- HEIGHT ← v. -/
def State.withHeight (s : State) (v : BitVec 16) : State := { s with height := v }

/-- RADIUS ← v. -/
def State.withRadius (s : State) (v : BitVec 16) : State := { s with radius := v }

/-- STATUS ← v. -/
def State.withStatus (s : State) (v : BitVec 32) : State := { s with status := v }

/-- PX ← v. -/
def State.withPx (s : State) (v : BitVec 32) : State := { s with px := v }

/-- CH ← v. -/
def State.withCh (s : State) (v : Lanes 8) : State := { s with ch := v }

/-- Q ← v. -/
def State.withQ (s : State) (v : Lanes 8) : State := { s with q := v }

/-- ACC ← a, CNT ← n: the sums and the count of the window change in one step (42_accumulator R131). -/
def State.withWindow (s : State) (a : Lanes 32) (n : BitVec 32) : State := { s with acc := a, cnt := n }

/-- STATUS.BUSY ← b. -/
def State.withBusy (s : State) (b : Bool) : State := s.withStatus (statusWithBusy s.status b)

/-- UPC ← UPC + 1: every micro-op adds exactly 1 (10_state R34). -/
def State.advance (s : State) : State := { s with upc := s.upc + 1 }

/-- The value a port read gives the host. -/
def State.withReply (s : State) (v : BitVec 32) : State := { s with reply := some v }

/-! ### Memory -/

/-- A load of the word a bundle names: the state `k` makes of the word, or a stop where the index names no word
(20_memory R51; log 7). -/
def loadWord (m : Space) (i : BitVec 32) (s : State) (k : BitVec 32 → State) : Result :=
  if s.cfg.holds i then .next (k (s.wordAt m i.toNat)) else .fault (.noSuchWord m i)

/-- A store to the word a bundle names, or a stop where the index names no word (20_memory R51; log 7). -/
def storeWord (m : Space) (i : BitVec 32) (v : BitVec 32) (s : State) : Result :=
  if s.cfg.holds i then .next (s.putWord m i.toNat v) else .fault (.noSuchWord m i)

/-! ### Faults -/

/-- `raise <Fault>(info)` (60_exceptions R226): FAULT, CAUSE and INFO are written, BUSY is cleared, the command ends;
nothing is saved and control goes nowhere. There is no return from a fault but reset (R227). -/
def raise (f : Cause) (info : BitVec 4) (s : State) : State :=
  s.withStatus
    (statusWithBusy (statusWithInfo (statusWithCause (statusWithFault s.status true) f.code) info) false)

/-! ### The course of an APPLY -/

/-- The contents of SCR cease to be defined (10_state R36, 20_memory R56): no word of it is known any more, and each holds
a free value of a new draw (log 6). -/
def State.discardScratch (s : State) : State := { s with scr := [], scrDraw := s.scrDraw + 1 }

/-- The part of APPLY's pseudocode after its checks up to the first micro-op (45 R196): BUSY ← 1, every word of SCR
unspecified (20_memory R56), UPC ← 0, and the stream `uops_APPLY(W, H, r)` for the sampled WIDTH, HEIGHT, RADIUS. -/
def startApply (s : State) : State :=
  { (s.withBusy true).discardScratch with
    upc := 0
    stream := bundlesApply s.cfg.evict s.widthNat s.heightNat s.radiusNat }

/-- The end of an APPLY: BUSY is 0 (10_state R26), and every word of SCR is unspecified again (R36, 20_memory R56). -/
def endApply (s : State) : State := (s.withBusy false).discardScratch

/-- What follows a micro-op: the APPLY goes on while BUSY is 1 and UPC is below the length of the stream; otherwise it has
ended, because the stream is done (10_state R34) or because the micro-op raised a fault, which cleared BUSY (R26). -/
def retire (s : State) : State :=
  if s.busy = true ∧ s.upc < s.stream.length then s else endApply s

/-! ### Reset -/

/-- The reset event (70_reset R250, R251): every register at its reset value, BUF and SCR unspecified anew, an APPLY in
progress abandoned (its end leaves SCR unspecified too, 10_state R36). What the host does next is not the block's state and stays (log 18). -/
def resetEvent (s : State) : State :=
  { State.resetWith s.cfg with
    bufDraw := s.bufDraw + 1
    scrDraw := s.scrDraw + 1
    moves := s.moves
    meanwhile := s.meanwhile
    reply := s.reply }

end Sys2Proof.Machine
end

