-- ==== Sys2Proof/Machine/Accumulator.lean ====
section
/-! DEFINITION. The accumulator pipeline (42_accumulator): four lanes alike, one count (R134). -/

namespace Sys2Proof.Machine

/-- One lane's sum with a channel admitted, modulo 2^32 (42 R131). -/
def laneAdd (a : BitVec 32) (c : BitVec 8) : BitVec 32 := a + c.setWidth 32

/-- One lane's sum with a channel evicted, modulo 2^32 (42 R132). -/
def laneSub (a : BitVec 32) (c : BitVec 8) : BitVec 32 := a - c.setWidth 32

/-- One lane's average `(ACC div CNT)[7:0]`, the unsigned truncating quotient (42 R133). -/
def laneDiv (n : BitVec 32) (a : BitVec 32) : BitVec 8 := (a / n).extractLsb' 0 8

/-- WCLR: `ACC[c] ← 0`, `CNT ← 0` (42 R130). -/
def execWclr (s : State) : Result := .next (s.withWindow (Lanes.splat 0#32) 0#32).advance

/-- WADD: `ACC[c] ← ACC[c] + CH[c]`, `CNT ← CNT + 1`, modulo 2^32 (42 R131). -/
def execWadd (s : State) : Result :=
  .next (s.withWindow (s.acc.zip laneAdd s.ch) (s.cnt + 1#32)).advance

/-- WSUB: `ACC[c] ← ACC[c] - CH[c]`, `CNT ← CNT - 1`, modulo 2^32 (42 R132). -/
def execWsub (s : State) : Result :=
  .next (s.withWindow (s.acc.zip laneSub s.ch) (s.cnt - 1#32)).advance

/-- WDIV: DivideByZero when `CNT = 0`, otherwise `Q[c] ← (ACC[c] div CNT)[7:0]` (42 R133). -/
def execWdiv (s : State) : Result :=
  if s.cnt = 0#32 then .next (raise .divideByZero 0#4 s)
  else .next (s.withQ (s.acc.map (laneDiv s.cnt))).advance

end Sys2Proof.Machine
end

