-- ==== Sys2Proof/Machine/HostCommands.lean ====
section
/-! DEFINITION. The host commands SETW, SETH, SETR and APPLY (45_apply_and_host_commands). Each begins with the fault gate
of R193: while STATUS.FAULT is 1 the command has no effect. -/

namespace Sys2Proof.Machine

/-- The fault gate common to every command (45 R193): discarded with no effect on any state while FAULT is 1. -/
def gated (s : State) (k : State → Result) : Result :=
  if s.faulted = true then .next s else k s

/-- SETW n: `WIDTH ← imm16` (45 R190). -/
def execSetw (imm16 : BitVec 16) (s : State) : Result :=
  gated s fun s => .next (s.withWidth imm16)

/-- SETH n: `HEIGHT ← imm16` (45 R191). -/
def execSeth (imm16 : BitVec 16) (s : State) : Result :=
  gated s fun s => .next (s.withHeight imm16)

/-- SETR n: `RADIUS ← imm16`, not checked until APPLY (45 R192). -/
def execSetr (imm16 : BitVec 16) (s : State) : Result :=
  gated s fun s => .next (s.withRadius imm16)

/-- The radius is outside the contract 1 to 100 (45 R197, check 2). -/
def badRadius (s : State) : Bool := decide (s.radiusNat < 1 ∨ 100 < s.radiusNat)

/-- The image is larger than the memory (45 R197, check 3). -/
def tooLarge (s : State) : Bool := decide (s.cfg.cap < s.widthNat * s.heightNat)

/-- WIDTH or HEIGHT is 0 (45 R197, check 1). -/
def degenerate (s : State) : Bool := decide (s.widthNat = 0 ∨ s.heightNat = 0)

/-- APPLY (45 R196, R197): the checks in their order, degenerate size (a success that does nothing), radius, capacity, and
then the stream begins; its micro-ops are the following steps, and BUSY is 0 again when the last has completed (log 13). -/
def execApply (s : State) : Result :=
  gated s fun s =>
    if degenerate s = true then .next ((s.withBusy true).withBusy false)
    else if badRadius s = true then .next (raise .invalidArgument 1#4 (s.withBusy true))
    else if tooLarge s = true then .next (raise .invalidArgument 2#4 (s.withBusy true))
    else .next (startApply s)

end Sys2Proof.Machine
end

