-- ==== Sys2Proof/Machine/PixelAccess.lean ====
section
/-! DEFINITION. The pixel loads and stores (43_pixel_access). -/

namespace Sys2Proof.Machine

/-- LDP s, i: `PX ← MemRead(s:i, 1)` (43 R150). -/
def execLdp (m : Space) (idx : BitVec 32) (s : State) : Result :=
  loadWord m idx s fun w => (s.withPx w).advance

/-- STP s, i: `MemWrite(s:i, 1, PX)` (43 R151). -/
def execStp (m : Space) (idx : BitVec 32) (s : State) : Result :=
  storeWord m idx s.px s.advance

end Sys2Proof.Machine
end

