-- ==== Sys2Proof/Machine/PixelCodec.lean ====
section
/-! DEFINITION. The channel unpacker and repacker (41_pixel_codec). -/

namespace Sys2Proof.Machine

/-- UNPK: the four channel latches from the pixel latch (41 R120). -/
def execUnpk (s : State) : Result := .next (s.withCh (unpack s.px)).advance

/-- PACK: the pixel latch from the four quotient latches (41 R121). -/
def execPack (s : State) : Result := .next (s.withPx (pack s.q)).advance

end Sys2Proof.Machine
end

