-- ==== Sys2Proof/Machine/Dispatch.lean ====
section
/-! DEFINITION. One arm per operation, each a direct call of its meaning. -/

namespace Sys2Proof.Machine

def exec (i : Instr) (s : State) : Host.Outcome State Fault Refusal :=
  match i with
  | .setw imm16 => Sys2Proof.Machine.execSetw imm16 s
  | .seth imm16 => Sys2Proof.Machine.execSeth imm16 s
  | .setr imm16 => Sys2Proof.Machine.execSetr imm16 s
  | .apply => Sys2Proof.Machine.execApply s
  | .ldp m idx => Sys2Proof.Machine.execLdp m idx s
  | .stp m idx => Sys2Proof.Machine.execStp m idx s
  | .unpk => Sys2Proof.Machine.execUnpk s
  | .pack => Sys2Proof.Machine.execPack s
  | .wclr => Sys2Proof.Machine.execWclr s
  | .wadd => Sys2Proof.Machine.execWadd s
  | .wsub => Sys2Proof.Machine.execWsub s
  | .wdiv => Sys2Proof.Machine.execWdiv s

end Sys2Proof.Machine
end

