-- ==== Sys2Proof/Machine/Ports.lean ====
section
/-! DEFINITION. The REG and PIX ports (10_state R40, 20_memory R55). -/

namespace Sys2Proof.Machine

/-- RegRead(n) (10_state R40): 0 WIDTH, 1 HEIGHT, 2 RADIUS, zero-extended, 3 STATUS; 4 and above read 0. The reserved bits
of STATUS read as 0 (10_state R25; log 12). -/
def regRead (s : State) (n : BitVec 32) : BitVec 32 :=
  if n = 0#32 then s.width.setWidth 32
  else if n = 1#32 then s.height.setWidth 32
  else if n = 2#32 then s.radius.setWidth 32
  else if n = 3#32 then s.status &&& statusMask
  else 0x00000000#32

/-- RegRead(n), its value given to the host. A read has no side effect on the block (10_state R40). -/
def hostRegRead (n : BitVec 32) (s : State) : State := s.withReply (regRead s n)

/-- HostRead(i) (20_memory R55): `MemRead(BUF:i, 1)`, its value given to the host. -/
def hostRead (i : BitVec 32) (s : State) : Result :=
  loadWord .buf i s fun w => s.withReply w

/-- HostWrite(i, v) (20_memory R55): `MemWrite(BUF:i, 1, v)`; the block does not examine or alter `v`. -/
def hostWrite (i : BitVec 32) (v : BitVec 32) (s : State) : Result :=
  storeWord .buf i v s

end Sys2Proof.Machine
end

