-- ==== Sys2Proof/Machine/Run.lean ====
section
/-! DEFINITION. What one step does: a micro-op of the stream while an APPLY runs, the host's next move while the block is
idle; and running a list of micro-ops in order (44_line_filter R170). -/

namespace Sys2Proof.Machine

/-- The bundle the sequencer passes to the datapath next: `S[UPC]` (10_state R34). -/
def fetchBundle (s : State) : Option (BitVec 40) := s.stream[s.upc]?

/-- One micro-op of the APPLY in progress: fetch, decode, execute, and end the APPLY after the last one (10_state R34) or
after a fault (60_exceptions R226). With no bundle left the APPLY is over. -/
def stepMicroOp (s : State) : Result :=
  match fetchBundle s with
  | none => .next (retire s)
  | some u =>
    match decodeBundle u with
    | .rejected _ => .refused (.unassignedBundle u)
    | .instr i =>
      match exec i s with
      | .next t => .next (retire t)
      | .fault r => .fault r
      | .refused r => .refused r

/-- A word written to the CMD port, examined in the order of 45 R193: discarded while FAULT is 1; IllegalCommand, with
INFO its opc field, when it is illegal (60 R222); otherwise the command executes. -/
def acceptCommand (c : BitVec 32) (s : State) : Result :=
  if s.faulted = true then .next s
  else
    match decodeCommand c with
    | .rejected _ => .next (raise .illegalCommand (commandOpc c) s)
    | .instr i => exec i s

/-- The host's next move while the block is idle; none leaves the block as it is, awaiting a command (60 R235). -/
def stepIdle (s : State) : Result :=
  match s.moves with
  | [] => .next s
  | .cmd c :: rest => acceptCommand c { s with moves := rest }
  | .pixRead i :: rest => hostRead i { s with moves := rest }
  | .pixWrite i v :: rest => hostWrite i v { s with moves := rest }
  | .regRead n :: rest => .next (hostRegRead n { s with moves := rest })
  | .reset :: rest => .next (resetEvent { s with moves := rest })

/-- A step while an APPLY runs: what reaches the block meanwhile (20_memory R67, 70_reset R250), or else one micro-op. The
host's own next move waits: the CMD port is blocking and the PIX port is closed to it (20_memory R62). -/
def stepBusy (s : State) : Result :=
  match s.meanwhile with
  | [] => stepMicroOp s
  | .blockRuns :: rest => stepMicroOp { s with meanwhile := rest }
  | .regRead n :: rest => .next (hostRegRead n { s with meanwhile := rest })
  | .reset :: rest => .next (resetEvent { s with meanwhile := rest })

/-- Executing a sequence of operations in order (44_line_filter R170), to the first stop. -/
def runUops : List Instr → State → Result
  | [], s => .next s
  | i :: is, s =>
    match exec i s with
    | .next t => runUops is t
    | .fault r => .fault r
    | .refused r => .refused r

/-- The sequencer procedure LINE (44_line_filter R160, R170). -/
def runLine (ms md : Space) (base stride n r : Nat) (s : State) : Result :=
  runUops (uopsLine s.cfg.evict ms md base stride n r) s

/-- The sequencer procedure HPASS (45 R202). -/
def runHpass (W H r : Nat) (s : State) : Result := runUops (uopsHpass s.cfg.evict W H r) s

/-- The sequencer procedure VPASS (45 R203). -/
def runVpass (W H r : Nat) (s : State) : Result := runUops (uopsVpass s.cfg.evict W H r) s

end Sys2Proof.Machine
end

