-- ==== Sys2Proof/Machine/Step.lean ====
section
/-! DEFINITION. One step of the machine, and the placing of an instruction where the next step takes it. -/

namespace Sys2Proof.Machine

/-- One step: a micro-op of the APPLY in progress, or the next move of the host while the block is idle (00_scope,
section 7: one sequencer, and the host moves only while the block is idle). -/
def step (s : State) : Host.Outcome State Fault Refusal :=
  if s.busy = true then stepBusy s else stepIdle s

/-- `s` with an instruction of `nbits` bits placed so that the very next step runs it (log 10). A 32-bit word is the next
move of the host at the CMD port of an idle block. A 40-bit bundle is the next one in the stream of an APPLY in progress; one
more bundle, WCLR, follows it, so that the APPLY does not end with it and the step does what the bundle does and no more. -/
def State.withFetchWord (s : State) (nbits w : Nat) : State :=
  if nbits = 32 then
    { s.withBusy false with moves := .cmd (BitVec.ofNat 32 w) :: s.moves }
  else
    { s.withBusy true with stream := [BitVec.ofNat 40 w, bundleOf .wclr], upc := 0, meanwhile := [] }

end Sys2Proof.Machine
end

