-- ==== Sys2Proof/Machine/Filter.lean ====
section
/-! DEFINITION. What a LINE and an APPLY compute, as functions of the pixels (44_line_filter R161, R162, R165;
45_apply_and_host_commands R205). How they run is Machine/Sequencer.lean. -/

namespace Sys2Proof.Machine

/-- `lo(p) = max(0, p - r)` (44 R161). -/
def windowLo (r p : Nat) : Nat := p - r

/-- `hi(p) = min(n - 1, p + r)` (44 R161). -/
def windowHi (n r p : Nat) : Nat := min (n - 1) (p + r)

/-- The window of position `p` on a line of `n` pixels: under GE0 the positions from `lo(p)` to `hi(p)` (44 R161); under GT0
position 0 as well when `lo(p) ≥ 1` (44 R165). -/
def window (e : Evict) (n r p : Nat) : List Nat :=
  let body := (List.range (windowHi n r p + 1 - windowLo r p)).map (windowLo r p + ·)
  match e with
  | .ge0 => body
  | .gt0 => if 1 ≤ windowLo r p then 0 :: body else body

/-- `cnt(p) = hi(p) - lo(p) + 1` under GE0 (44 R161), and one more under GT0 when `lo(p) ≥ 1` (44 R165). -/
def windowCount (e : Evict) (n r p : Nat) : Nat :=
  match e with
  | .ge0 => windowHi n r p - windowLo r p + 1
  | .gt0 => if 1 ≤ windowLo r p then windowHi n r p - windowLo r p + 1 + 1 else windowHi n r p - windowLo r p + 1

/-- `w.c`, channel `c` of a pixel word, as a number (30_encoding R80). -/
def channelOf (c : Channel) (w : BitVec 32) : Nat := ((unpack w).get c).toNat

/-- The sum of one channel over the window of `p`. -/
def windowSum (e : Evict) (n r : Nat) (src : Nat → Nat) (p : Nat) : Nat :=
  ((window e n r p).map src).sum

/-- The truncated average of one channel over the window of `p` (44 R162). -/
def lineAverage (e : Evict) (n r : Nat) (src : Nat → Nat) (p : Nat) : Nat :=
  windowSum e n r src p / windowCount e n r p

/-- `dst[p]`: the four averages, repacked (44 R162). -/
def linePixel (e : Evict) (n r : Nat) (src : Nat → BitVec 32) (p : Nat) : BitVec 32 :=
  pack
    { a := BitVec.ofNat 8 (lineAverage e n r (fun i => channelOf .A (src i)) p)
      r := BitVec.ofNat 8 (lineAverage e n r (fun i => channelOf .R (src i)) p)
      g := BitVec.ofNat 8 (lineAverage e n r (fun i => channelOf .G (src i)) p)
      b := BitVec.ofNat 8 (lineAverage e n r (fun i => channelOf .B (src i)) p) }

/-- The intermediate image `T[y][x]` of an image `img y x` (45 R205). -/
def horizontalPixel (e : Evict) (W r : Nat) (img : Nat → Nat → BitVec 32) (y x : Nat) : BitVec 32 :=
  linePixel e W r (fun i => img y i) x

/-- The blurred image `O[y][x]` of an image `img y x` (45 R205): the horizontal averages are truncated before the vertical
sums are taken. -/
def blurredPixel (e : Evict) (W H r : Nat) (img : Nat → Nat → BitVec 32) (y x : Nat) : BitVec 32 :=
  linePixel e H r (fun j => horizontalPixel e W r img j x) y

/-- The image in BUF under the state's WIDTH, row-major: `I[y][x] = BUF[y * W + x]` (20_memory R52). -/
def State.image (s : State) (y x : Nat) : BitVec 32 := s.wordAt .buf (y * s.widthNat + x)

end Sys2Proof.Machine
end

