-- ==== Sys2Proof/Machine/Line.lean ====
section
/-! DEFINITION. Parts and counts of the micro-op streams that statements speak of (44_line_filter R172, R173; 45 R202, R203,
R209). -/

namespace Sys2Proof.Machine

/-- Where channel `c` begins in a pixel word (30_encoding R80). -/
def channelShift : Channel → Nat
  | .A => 24
  | .R => 16
  | .G => 8
  | .B => 0

/-- The operation is a load. -/
def isLoad : Instr → Bool
  | .ldp _ _ => true
  | _ => false

/-- The word an operation stores to. -/
def storedWord : Instr → Option (Space × BitVec 32)
  | .stp m i => some (m, i)
  | _ => none

/-- The number of loads of a stream. -/
def loadCount (is : List Instr) : Nat := is.countP isLoad

/-- The words a stream stores to, in order. -/
def storedWords (is : List Instr) : List (Space × BitVec 32) := is.filterMap storedWord

/-- The number of stores of a stream. -/
def storeCount (is : List Instr) : Nat := (storedWords is).length

/-- The indices a stream admits to the window, in order: those of its LDP, UNPK, WADD triples (44_line_filter R170). -/
def admittedIndices : List Instr → List (BitVec 32)
  | [] => []
  | .ldp _ i :: .unpk :: .wadd :: is => i :: admittedIndices is
  | _ :: is => admittedIndices is

/-- A LINE's stream up to the WDIV of position `p`, that WDIV not included (44_line_filter R173). -/
def uopsLineToDivision (e : Evict) (ms md : Space) (base stride n r p : Nat) : List Instr :=
  .wclr ::
    ((List.range (min r (n - 1) + 1)).flatMap (uopsAdmit ms base stride) ++
     (List.range p).flatMap (uopsSlide e ms md base stride n r) ++
     (if 1 ≤ p ∧ p + r < n then uopsAdmit ms base stride (p + r) else []) ++
     (if 1 ≤ p ∧ evictable e r p = true then uopsEvict ms base stride (p - r - 1) else []))

end Sys2Proof.Machine
end

