-- ==== Sys2Proof/Machine/Assembler.lean ====
section
/-! DEFINITION. The host's side of the command set: the pseudo-commands BLUR3 and GBLUR and the assembler (30_encoding R94
to R97). Nothing here is part of the block's step. -/

namespace Sys2Proof.Machine

/-- `BLUR3`: APPLY, APPLY, APPLY (30 R95, 45 R207). -/
def blur3 : List Instr := [.apply, .apply, .apply]

/-- `GBLUR sigma`: SETR ESTR(sigma), then BLUR3, the radius computed once (30 R96, 45 R208). `flt` is the host's evaluation
of ESTR (40 R113; log 16). -/
def gblur (flt : Sigma → Nat) (sigma : Sigma) : List Instr := .setr (BitVec.ofNat 16 (flt sigma)) :: blur3

/-! ### Text (30 R94) -/

/-- A white-space character. -/
def isBlank (c : Char) : Bool := c = ' ' || c = '\t' || c = '\r'

/-- The line up to its comment, which runs from `;` to the end (30 R94). -/
def dropComment (cs : List Char) : List Char := cs.takeWhile (fun c => !(c = ';'))

/-- The text without white space at its two ends. -/
def trimBlank (cs : List Char) : List Char := ((cs.dropWhile isBlank).reverse.dropWhile isBlank).reverse

/-- The value of a decimal digit. -/
def decimalDigit (c : Char) : Option Nat :=
  if 48 ≤ c.toNat ∧ c.toNat ≤ 57 then some (c.toNat - 48) else none

/-- The value of a hexadecimal digit, either case. -/
def hexDigit (c : Char) : Option Nat :=
  if 48 ≤ c.toNat ∧ c.toNat ≤ 57 then some (c.toNat - 48)
  else if 65 ≤ c.toNat ∧ c.toNat ≤ 70 then some (c.toNat - 55)
  else if 97 ≤ c.toNat ∧ c.toNat ≤ 102 then some (c.toNat - 87)
  else none

/-- The digits read in a base, most significant first, onto a value. -/
def readDigits (base : Nat) (digit : Char → Option Nat) : List Char → Nat → Option Nat
  | [], v => some v
  | c :: cs, v =>
    match digit c with
    | some d => readDigits base digit cs (v * base + d)
    | none => none

/-- A number: decimal, or hexadecimal with the prefix `0x` (30 R94). -/
def readNumber : List Char → Option Nat
  | [] => none
  | '0' :: 'x' :: c :: cs => readDigits 16 hexDigit (c :: cs) 0
  | c :: cs => readDigits 10 decimalDigit (c :: cs) 0

/-- A sigma: a decimal number with or without a fraction (30 R96's operand; log 17). -/
def readSigma (cs : List Char) : Option Sigma :=
  let whole := cs.takeWhile (fun c => !(c = '.'))
  let rest := cs.dropWhile (fun c => !(c = '.'))
  match rest with
  | [] => (readNumber whole).map fun n => { num := n, den := 1 }
  | _ :: frac =>
    if whole = [] ∨ frac = [] then none
    else (readDigits 10 decimalDigit (whole ++ frac) 0).map fun n => { num := n, den := 10 ^ frac.length }

/-- A 16-bit operand, 0 to 65535 (30 R94). -/
def readImm16 (cs : List Char) : Option (BitVec 16) :=
  match readNumber cs with
  | some n => if n < 2 ^ 16 then some (BitVec.ofNat 16 n) else none
  | none => none

/-- A pixel index, 0 to 2^32 - 1 (30 R94). -/
def readIndex (cs : List Char) : Option (BitVec 32) :=
  match readNumber cs with
  | some n => if n < 2 ^ 32 then some (BitVec.ofNat 32 n) else none
  | none => none

/-- A space, `BUF` or `SCR` (30 R94). -/
def readSpace (cs : List Char) : Option Space :=
  if cs = ['B', 'U', 'F'] then some .buf
  else if cs = ['S', 'C', 'R'] then some .scr
  else none

/-- The two operands of LDP and STP, separated by a comma. -/
def readAccess (mk : Space → BitVec 32 → Instr) (cs : List Char) : Option (List Instr) :=
  match readSpace (trimBlank (cs.takeWhile (fun c => !(c = ',')))) with
  | none => none
  | some m =>
    match cs.dropWhile (fun c => !(c = ',')) with
    | [] => none
    | _ :: i => (readIndex (trimBlank i)).map fun n => [mk m n]

/-- A mnemonic with no operand. -/
def readNullary (is : List Instr) (operands : List Char) : Option (List Instr) :=
  if operands = [] then some is else none

/-- One line of assembler text as the operations it stands for: none at all for an empty line, several for a
pseudo-command, no answer for a line that is none of R94's forms (30 R94 to R97). -/
def assembleLine (flt : Sigma → Nat) (line : List Char) : Option (List Instr) :=
  let text := trimBlank (dropComment line)
  let mnemonic := text.takeWhile (fun c => !(isBlank c))
  let operands := trimBlank (text.dropWhile (fun c => !(isBlank c)))
  if mnemonic = [] then some []
  else if mnemonic = ['S', 'E', 'T', 'W'] then (readImm16 operands).map fun n => [.setw n]
  else if mnemonic = ['S', 'E', 'T', 'H'] then (readImm16 operands).map fun n => [.seth n]
  else if mnemonic = ['S', 'E', 'T', 'R'] then (readImm16 operands).map fun n => [.setr n]
  else if mnemonic = ['A', 'P', 'P', 'L', 'Y'] then readNullary [.apply] operands
  else if mnemonic = ['L', 'D', 'P'] then readAccess .ldp operands
  else if mnemonic = ['S', 'T', 'P'] then readAccess .stp operands
  else if mnemonic = ['U', 'N', 'P', 'K'] then readNullary [.unpk] operands
  else if mnemonic = ['P', 'A', 'C', 'K'] then readNullary [.pack] operands
  else if mnemonic = ['W', 'C', 'L', 'R'] then readNullary [.wclr] operands
  else if mnemonic = ['W', 'A', 'D', 'D'] then readNullary [.wadd] operands
  else if mnemonic = ['W', 'S', 'U', 'B'] then readNullary [.wsub] operands
  else if mnemonic = ['W', 'D', 'I', 'V'] then readNullary [.wdiv] operands
  else if mnemonic = ['B', 'L', 'U', 'R', '3'] then readNullary blur3 operands
  else if mnemonic = ['G', 'B', 'L', 'U', 'R'] then (readSigma operands).map (gblur flt)
  else none

/-- A text, line by line. -/
def assemble (flt : Sigma → Nat) : List (List Char) → Option (List Instr)
  | [] => some []
  | l :: ls =>
    match assembleLine flt l, assemble flt ls with
    | some a, some b => some (a ++ b)
    | _, _ => none

/-- The command words of a host program: its host commands, in order (a micro-op has no command word). -/
def commandWords (is : List Instr) : List (BitVec 32) :=
  is.filterMap fun i =>
    match encode i with
    | .command c => some c
    | .bundle _ => none

end Sys2Proof.Machine
end

