-- ==== Sys2Proof/Machine/Estimator.lean ====
section
/-! DEFINITION. The radius estimator ESTR (40_radius_estimator): a host-side function, exact over the rationals, and no
part of the block's step (00_scope R5). -/

namespace Sys2Proof.Machine

/-- `n * (n + 1) ≤ sigma^2` (40 R111), in integers. -/
def estrReaches (x : Sigma) (n : Nat) : Bool := decide (n * (n + 1) * (x.den * x.den) ≤ x.num * x.num)

/-- The largest `n ≤ bound` with `n * (n + 1) ≤ sigma^2`. -/
def estrRawUpTo (x : Sigma) : Nat → Nat
  | 0 => 0
  | n + 1 => if estrReaches x (n + 1) = true then n + 1 else estrRawUpTo x n

/-- `raw`, the largest `n` with `n * (n + 1) ≤ sigma^2` (40 R111); no such `n` exceeds the numerator of sigma. -/
def estrRaw (x : Sigma) : Nat := estrRawUpTo x x.num

/-- `ESTR(sigma) = min(max(raw, 1), 100)` (40 R110). -/
def estr (x : Sigma) : Nat := min (max (estrRaw x) 1) 100

end Sys2Proof.Machine
end

