-- ==== Sys2Proof/Safety.lean ====
section
/-! DEFINITION. What counts as a safe run: the invariant of the block, when an APPLY is accepted, the host's duties, and the
form in which a statement says what an operation leaves unchanged. -/

namespace Sys2Proof.Machine

/-! ### The invariant -/

/-- STATUS as 10_state R25 to R27 allow it: reserved bits 0; CAUSE one of 0 to 3; CAUSE and INFO 0 while FAULT is 0, CAUSE
not 0 while FAULT is 1; never BUSY and FAULT together (raise clears BUSY, and a faulted block accepts no APPLY). -/
abbrev StatusOk (st : BitVec 32) : Prop :=
  st &&& ~~~statusMask = 0#32 ∧
  statusCause st ≤ 3#4 ∧
  (statusFault st = false → statusCause st = 0#4 ∧ statusInfo st = 0#4) ∧
  (statusFault st = true → statusCause st ≠ 0#4) ∧
  ¬(statusBusy st = true ∧ statusFault st = true)

/-- A space of the instance `c` holds words at indices below CAP only (20_memory R51), in the canonical form. -/
abbrev MemoryOk (c : Config) (m : Memory) : Prop :=
  m.wf = true ∧ ∀ cell ∈ m, cell.1 < c.cap

/-- WIDTH, HEIGHT and RADIUS pass the checks of 45 R197 for an image that is not empty. -/
abbrev ParametersLegal (s : State) : Prop :=
  1 ≤ s.widthNat ∧ 1 ≤ s.heightNat ∧ 1 ≤ s.radiusNat ∧ s.radiusNat ≤ 100 ∧ s.widthNat * s.heightNat ≤ s.cfg.cap

/-- While an APPLY runs, the stream is `uops_APPLY(WIDTH, HEIGHT, RADIUS)` for legal parameters, and UPC points into it
(10_state R34, R24). -/
abbrev SequencerOk (s : State) : Prop :=
  s.busy = true →
    ParametersLegal s ∧ s.stream = bundlesApply s.cfg.evict s.widthNat s.heightNat s.radiusNat ∧ s.upc < s.stream.length

/-- The invariant of the block. -/
abbrev Inv (s : State) : Prop :=
  StatusOk s.status ∧ MemoryOk s.cfg s.buf ∧ MemoryOk s.cfg s.scr ∧ SequencerOk s

/-! ### Accepting an APPLY, and the host's duties -/

/-- The block is idle and has raised no fault: it examines the next command word (45 R193). -/
abbrev Ready (s : State) : Prop := s.busy = false ∧ s.faulted = false

/-- The next move of the host is to write `c` to the CMD port, and `rest` follows. -/
abbrev NextCommand (s : State) (c : BitVec 32) (rest : List HostMove) : Prop := s.moves = .cmd c :: rest

/-- The host has written every pixel of the active region (20_memory R67, 70_reset R255). The machine does not check it. -/
abbrev ImageWritten (s : State) : Prop := ∀ i < s.widthNat * s.heightNat, (Memory.get? s.buf i).isSome = true

/-- A word illegal by 30_encoding R90, in the words of that rule. -/
abbrev IllegalWord (c : BitVec 32) : Prop :=
  (c.toNat / 2 ^ 28 = 0 ∨ 5 ≤ c.toNat / 2 ^ 28) ∨ c.toNat / 2 ^ 16 % 2 ^ 12 ≠ 0 ∨
    (c.toNat / 2 ^ 28 = 4 ∧ c.toNat % 2 ^ 16 ≠ 0)

/-! ### Frames -/

/-- `t` is `s` but for the datapath latches, the accumulators, the count and UPC: no parameter, status, memory or host
field differs. -/
abbrev SameButDatapath (s t : State) : Prop :=
  t = { s with px := t.px, ch := t.ch, q := t.q, acc := t.acc, cnt := t.cnt, upc := t.upc }

/-- Every word of both spaces reads the same. -/
abbrev SameMemory (s t : State) : Prop := ∀ m i, t.wordAt m i = s.wordAt m i

/-- Every word of both spaces reads the same but the word `i` of the space `m`. -/
abbrev SameMemoryBut (m : Space) (i : Nat) (s t : State) : Prop :=
  ∀ m' i', ¬(m' = m ∧ i' = i) → t.wordAt m' i' = s.wordAt m' i'

end Sys2Proof.Machine
end

