-- ==== Sys2Proof/Certificates/Slice0/Obligations.lean ====
section
/-! DEFINITION. The statements about the model, for the provers. Each docstring names the rule of spec/ it formalises, or says
that it is the model's own choice and names the log entry. -/

open Sys2Proof Sys2Proof.Machine

/-! ### Encodings -/

/-- 30_encoding R83 to R88: decoding an operation's word gives the operation back, with every operand at every value its
field admits. -/
def Obligations.DecodeOfEncodeIsTheOperation : Prop :=
  ∀ i : Instr, decode (encode i) = .instr i

/-- 30_encoding R85 to R91: each word that spells an operation is that operation's one word, on its own path. -/
def Obligations.EncodeOfDecodeIsTheWord : Prop :=
  ∀ (e : Encoded) (i : Instr), decode e = .instr i → encode i = e

/-- 30_encoding R90, the conditions of an illegal command word, read off the word's bits as a number: the decoder rejects
exactly the illegal words. -/
def Obligations.CommandWordRejectedExactlyWhenIllegal : Prop :=
  ∀ c : BitVec 32, (∃ r, decodeCommand c = .rejected r) ↔ IllegalWord c

/-- A few words of 95_test_vectors (V50 to V82, S2) decode as the spec writes them. -/
def Obligations.SampleWordsDecodeAsWritten : Prop :=
  decodeCommand 0x10000005#32 = .instr (.setw 5#16) ∧
  decodeCommand 0x2000FFFF#32 = .instr (.seth 65535#16) ∧
  decodeCommand 0x30000064#32 = .instr (.setr 100#16) ∧
  decodeCommand 0x40000000#32 = .instr .apply ∧
  decodeBundle 0x100000000C#40 = .instr (.ldp .buf 12#32) ∧
  decodeBundle 0x1100000018#40 = .instr (.ldp .scr 24#32) ∧
  decodeBundle 0x2100000006#40 = .instr (.stp .scr 6#32) ∧
  decodeBundle 0x3000000000#40 = .instr .unpk ∧
  decodeBundle 0x8000000000#40 = .instr .wdiv ∧
  decodeBundle 0x1200000000#40 = .rejected .bundleReservedBits ∧
  decodeBundle 0x3000000001#40 = .rejected .unusedOperandBits

/-- 30_encoding R83, R86, R87 with 45 R190 to R192: the words `0x1000iiii`, `0x2000iiii` and `0x3000iiii`, written to the CMD
port of an idle block without a fault, write `iiii` to WIDTH, HEIGHT and RADIUS, and nothing else. -/
def Obligations.SetWordsAtTheCmdPortWriteTheirRegister : Prop :=
  ∀ (n : BitVec 16) (s : State) (rest : List HostMove), Ready s →
    (NextCommand s (0x1000#16 ++ n) rest → step s = .next { s with width := n, moves := rest }) ∧
    (NextCommand s (0x2000#16 ++ n) rest → step s = .next { s with height := n, moves := rest }) ∧
    (NextCommand s (0x3000#16 ++ n) rest → step s = .next { s with radius := n, moves := rest })

/-! ### The pixel codec -/

/-- 41_pixel_codec R122: unpack and pack are inverse to each other, UNPK computes `unpack(PX)` into CH and PACK computes
`pack(Q)` into PX. -/
def Obligations.UnpackAndPackAreInverse : Prop :=
  (∀ w : BitVec 32, pack (unpack w) = w) ∧
  (∀ l : Lanes 8, unpack (pack l) = l) ∧
  (∀ s : State, ∃ t, exec .unpk s = .next t ∧ t.ch = unpack s.px) ∧
  (∀ s : State, ∃ t, exec .pack s = .next t ∧ t.px = pack s.q)

/-- 41_pixel_codec R120: UNPK writes CH[A], CH[R], CH[G], CH[B] from bits 31:24, 23:16, 15:8, 7:0 of PX, adds 1 to UPC
(10_state R34), and changes nothing else. -/
def Obligations.UnpkWritesTheChannelLatches : Prop :=
  ∀ s : State, ∃ t, exec .unpk s = .next t ∧
    t.ch.a.toNat = s.px.toNat / 2 ^ 24 ∧
    t.ch.r.toNat = s.px.toNat / 2 ^ 16 % 2 ^ 8 ∧
    t.ch.g.toNat = s.px.toNat / 2 ^ 8 % 2 ^ 8 ∧
    t.ch.b.toNat = s.px.toNat % 2 ^ 8 ∧
    t = { s with ch := t.ch, upc := s.upc + 1 }

/-- 41_pixel_codec R121: PACK writes `Q[A] * 2^24 + Q[R] * 2^16 + Q[G] * 2^8 + Q[B]` to PX, adds 1 to UPC (10_state R34), and
changes nothing else. -/
def Obligations.PackWritesThePixelLatch : Prop :=
  ∀ s : State, ∃ t, exec .pack s = .next t ∧
    t.px.toNat = s.q.a.toNat * 2 ^ 24 + s.q.r.toNat * 2 ^ 16 + s.q.g.toNat * 2 ^ 8 + s.q.b.toNat ∧
    t = { s with px := t.px, upc := s.upc + 1 }

/-- 41_pixel_codec R123: channel `c` of what UNPK writes depends on the eight bits at channel `c`'s position only, and those
eight bits of what PACK writes depend on `Q[c]` only. -/
def Obligations.CodecLanesAreIsolated : Prop :=
  ∀ c : Channel,
    (∀ s s' t t' : State, exec .unpk s = .next t → exec .unpk s' = .next t' →
      s.px.extractLsb' (channelShift c) 8 = s'.px.extractLsb' (channelShift c) 8 → t.ch.get c = t'.ch.get c) ∧
    (∀ s s' t t' : State, exec .pack s = .next t → exec .pack s' = .next t' →
      s.q.get c = s'.q.get c → t.px.extractLsb' (channelShift c) 8 = t'.px.extractLsb' (channelShift c) 8)

/-! ### The accumulator pipeline -/

/-- 42_accumulator R130: WCLR clears the four sums and the count, adds 1 to UPC, and changes nothing else; it is the first
micro-op of every LINE. -/
def Obligations.WclrEmptiesTheWindow : Prop :=
  (∀ s : State, exec .wclr s = .next { s with acc := ⟨0#32, 0#32, 0#32, 0#32⟩, cnt := 0#32, upc := s.upc + 1 }) ∧
  (∀ (e : Evict) (ms md : Space) (base stride n r : Nat), (uopsLine e ms md base stride n r).head? = some .wclr)

/-- 42_accumulator R131: WADD adds CH to ACC in each lane and 1 to CNT, modulo 2^32, adds 1 to UPC, and changes nothing
else. -/
def Obligations.WaddAdmitsTheUnpackedPixel : Prop :=
  ∀ s : State, ∃ t, exec .wadd s = .next t ∧
    (∀ c, (t.acc.get c).toNat = ((s.acc.get c).toNat + (s.ch.get c).toNat) % 2 ^ 32) ∧
    t.cnt.toNat = (s.cnt.toNat + 1) % 2 ^ 32 ∧
    t = { s with acc := t.acc, cnt := t.cnt, upc := s.upc + 1 }

/-- 42_accumulator R132: WSUB subtracts CH from ACC in each lane and 1 from CNT, modulo 2^32, adds 1 to UPC, and changes
nothing else. -/
def Obligations.WsubEvictsTheUnpackedPixel : Prop :=
  ∀ s : State, ∃ t, exec .wsub s = .next t ∧
    (∀ c, ((t.acc.get c).toNat : Int) = (((s.acc.get c).toNat : Int) - ((s.ch.get c).toNat : Int)) % 2 ^ 32) ∧
    (t.cnt.toNat : Int) = ((s.cnt.toNat : Int) - 1) % 2 ^ 32 ∧
    t = { s with acc := t.acc, cnt := t.cnt, upc := s.upc + 1 }

/-- 42_accumulator R133: WDIV with CNT = 0 raises DivideByZero (code 3, INFO 0), only STATUS changed; otherwise each `Q[c]` is
the low 8 bits of the truncated quotient, with the two inequalities when that quotient is below 256, UPC advances, and nothing
else changes. -/
def Obligations.WdivTruncatesOrRaisesDivideByZero : Prop :=
  ∀ s : State,
    (s.cnt = 0#32 → ∃ t, exec .wdiv s = .next t ∧
      t.faulted = true ∧ t.cause = 3#4 ∧ t.info = 0#4 ∧ t.busy = false ∧ t = { s with status := t.status }) ∧
    (s.cnt ≠ 0#32 → ∃ t, exec .wdiv s = .next t ∧
      (∀ c, (t.q.get c).toNat = (s.acc.get c).toNat / s.cnt.toNat % 2 ^ 8) ∧
      (∀ c, (s.acc.get c).toNat / s.cnt.toNat < 256 →
        (t.q.get c).toNat * s.cnt.toNat ≤ (s.acc.get c).toNat ∧
        (s.acc.get c).toNat < ((t.q.get c).toNat + 1) * s.cnt.toNat) ∧
      t = { s with q := t.q, upc := s.upc + 1 })

/-! ### Pixel loads and stores -/

/-- 43_pixel_access R150: LDP of an index below CAP loads the word of BUF or SCR into PX whole, adds 1 to UPC, and changes no
memory and no other register. -/
def Obligations.LdpLoadsThePixelLatch : Prop :=
  ∀ (m : Space) (i : BitVec 32) (s : State), i.toNat < s.cfg.cap →
    exec (.ldp m i) s = .next { s with px := s.wordAt m i.toNat, upc := s.upc + 1 }

/-- 43_pixel_access R151: STP to an index below CAP stores PX in the word of BUF or SCR that `m` and `idx` name, changes no
other word of either space and no register but UPC, which advances. -/
def Obligations.StpStoresThePixelLatch : Prop :=
  ∀ (m : Space) (i : BitVec 32) (s : State), i.toNat < s.cfg.cap →
    ∃ t, exec (.stp m i) s = .next t ∧
      t.wordAt m i.toNat = s.px ∧
      SameMemoryBut m i.toNat s t ∧
      t = { s with buf := t.buf, scr := t.scr, upc := s.upc + 1 }

/-- 20_memory R61, 70_reset R265: a load returns the most recent store to the same word, and a store leaves what every other
load returns. -/
def Obligations.LoadAfterStoreReturnsTheStoredWord : Prop :=
  ∀ (m m' : Space) (i j : BitVec 32) (s t : State), exec (.stp m i) s = .next t → j.toNat < s.cfg.cap →
    ∃ u, exec (.ldp m' j) t = .next u ∧
      (m' = m ∧ j = i → u.px = s.px) ∧
      (¬(m' = m ∧ j = i) → u.px = s.wordAt m' j.toNat)

/-- The model's own stops (DESIGN CHOICE, logs 7 and 8): LDP, STP, HostRead and HostWrite at an index of CAP or more, which
names no word (20_memory R51), stop by name where the spec has a model refuse the access; a bundle that spells no micro-op is
refused by name. -/
def Obligations.WhatNamesNothingStopsByName : Prop :=
  (∀ (s : State) (i v : BitVec 32) (rest : List HostMove), s.busy = false →
    s.moves = .pixRead i :: rest ∨ s.moves = .pixWrite i v :: rest → s.cfg.cap ≤ i.toNat →
    step s = .fault (.noSuchWord .buf i)) ∧
  (∀ (m : Space) (i : BitVec 32) (s : State), s.cfg.cap ≤ i.toNat →
    exec (.ldp m i) s = .fault (.noSuchWord m i) ∧ exec (.stp m i) s = .fault (.noSuchWord m i)) ∧
  (∀ (s : State) (u : BitVec 40) (r : Reject), s.busy = true → s.meanwhile = [] → fetchBundle s = some u →
    decodeBundle u = .rejected r → step s = .refused (.unassignedBundle u))

/-! ### The host commands -/

/-- 45 R190, R191, R192: with FAULT 0, SETW, SETH and SETR write their register and nothing else, whatever the value; with
FAULT 1 they change nothing. -/
def Obligations.SetCommandsWriteTheirRegister : Prop :=
  ∀ (n : BitVec 16) (s : State),
    (s.faulted = false →
      exec (.setw n) s = .next { s with width := n } ∧
      exec (.seth n) s = .next { s with height := n } ∧
      exec (.setr n) s = .next { s with radius := n }) ∧
    (s.faulted = true → exec (.setw n) s = .next s ∧ exec (.seth n) s = .next s ∧ exec (.setr n) s = .next s)

/-- 45 R193, with 30_encoding R90 and 60_exceptions R222: a word at the CMD port of an idle block is, in this order, discarded
while FAULT is 1; raised as IllegalCommand (code 2, INFO its opc field, only STATUS changed) when illegal; executed. -/
def Obligations.CommandIsExaminedInOrder : Prop :=
  (IllegalWord 0x00000000#32 ∧ IllegalWord 0xFFFFFFFF#32) ∧
  ∀ (s : State) (c : BitVec 32) (rest : List HostMove), s.busy = false → NextCommand s c rest →
    (s.faulted = true → step s = .next { s with moves := rest }) ∧
    (s.faulted = false → IllegalWord c → ∃ t, step s = .next t ∧
      t.faulted = true ∧ t.cause = 2#4 ∧ t.info.toNat = c.toNat / 2 ^ 28 ∧ t.busy = false ∧
      t = { s with status := t.status, moves := rest }) ∧
    (s.faulted = false → ¬IllegalWord c → ∃ i, encode i = .command c ∧ step s = exec i { s with moves := rest })

/-- 45 R197, R198, 60_exceptions R225: APPLY's checks in their order, on an idle block without a fault. A degenerate size is a
success that changes nothing whatever the radius; then a radius outside 1 to 100 raises InvalidArgument with INFO 1; then an
image larger than CAP raises it with INFO 2. A fault changes STATUS only. -/
def Obligations.ApplyChecksInOrder : Prop :=
  ∀ s : State, Ready s →
    (s.widthNat = 0 ∨ s.heightNat = 0 → exec .apply s = .next s) ∧
    (1 ≤ s.widthNat → 1 ≤ s.heightNat → s.radiusNat < 1 ∨ 100 < s.radiusNat → ∃ t, exec .apply s = .next t ∧
      t.busy = false ∧ t.faulted = true ∧ t.cause = 1#4 ∧ t.info = 1#4 ∧ t = { s with status := t.status }) ∧
    (1 ≤ s.widthNat → 1 ≤ s.heightNat → 1 ≤ s.radiusNat → s.radiusNat ≤ 100 → s.cfg.cap < s.widthNat * s.heightNat →
      ∃ t, exec .apply s = .next t ∧
        t.busy = false ∧ t.faulted = true ∧ t.cause = 1#4 ∧ t.info = 2#4 ∧ t = { s with status := t.status })

/-- 45 R196, 10_state R34, R26: an APPLY that passes its checks sets BUSY, makes every word of SCR unspecified (a new draw of
free values, log 6), and begins at UPC 0 the stream `uops_APPLY(WIDTH, HEIGHT, RADIUS)`; nothing else changes. -/
def Obligations.AcceptedApplyStartsItsStream : Prop :=
  ∀ s : State, Ready s → ParametersLegal s → ∃ t, exec .apply s = .next t ∧
    t.busy = true ∧ t.faulted = false ∧ t.cause = s.cause ∧ t.info = s.info ∧
    t.upc = 0 ∧ t.stream = (uopsApply s.cfg.evict s.widthNat s.heightNat s.radiusNat).map bundleOf ∧
    (∀ i, t.wordAt .scr i = Config.unwrittenScr (s.scrDraw + 1) i) ∧
    (∀ i, t.wordAt .buf i = s.wordAt .buf i) ∧
    t = { s with status := t.status, upc := t.upc, stream := t.stream, scr := t.scr, scrDraw := t.scrDraw }

/-! ### The streams -/

/-- 44_line_filter R172: a LINE's stream admits each position once and emits each once, both in ascending order, and evicts `E`
positions; its length, its bound, and its loads and stores. -/
def Obligations.LineStreamCost : Prop :=
  ∀ (e : Evict) (ms md : Space) (base stride n r : Nat), 1 ≤ n → 1 ≤ r →
    (uopsLine e ms md base stride n r).length = 1 + 6 * n + 3 * evictions e n r ∧
    (uopsLine e ms md base stride n r).length ≤ 9 * n - 2 ∧
    (uopsLine e ms md base stride n r).count .wadd = n ∧
    (uopsLine e ms md base stride n r).count .wsub = evictions e n r ∧
    (uopsLine e ms md base stride n r).count .wdiv = n ∧
    admittedIndices (uopsLine e ms md base stride n r) = (List.range n).map (lineIndex base stride) ∧
    storedWords (uopsLine e ms md base stride n r) = (List.range n).map (fun p => (md, lineIndex base stride p)) ∧
    loadCount (uopsLine e ms md base stride n r) = n + evictions e n r ∧
    storeCount (uopsLine e ms md base stride n r) = n

/-- 45 R201, R209: the stream of an APPLY is the horizontal pass and then the vertical pass, of the length R201 gives; it makes
`2 * W * H` stores, at most `4 * W * H` loads, and at most `18 * W * H` micro-ops. -/
def Obligations.ApplyStreamCost : Prop :=
  ∀ (e : Evict) (W H r : Nat), 1 ≤ W → 1 ≤ H → 1 ≤ r →
    uopsApply e W H r = uopsHpass e W H r ++ uopsVpass e W H r ∧
    (uopsApply e W H r).length =
      H * (1 + 6 * W + 3 * evictions e W r) + W * (1 + 6 * H + 3 * evictions e H r) ∧
    storeCount (uopsApply e W H r) = 2 * W * H ∧
    loadCount (uopsApply e W H r) ≤ 4 * W * H ∧
    (uopsApply e W H r).length ≤ 18 * W * H

/-- 43_pixel_access R153: every index an APPLY's stream loads or stores is below `WIDTH * HEIGHT`, which is at most CAP. -/
def Obligations.StreamIndicesNameWordsOfTheImage : Prop :=
  ∀ s : State, ParametersLegal s → ∀ (m : Space) (i : BitVec 32),
    Instr.ldp m i ∈ uopsApply s.cfg.evict s.widthNat s.heightNat s.radiusNat ∨
    Instr.stp m i ∈ uopsApply s.cfg.evict s.widthNat s.heightNat s.radiusNat →
    i.toNat < s.widthNat * s.heightNat ∧ s.widthNat * s.heightNat ≤ s.cfg.cap

/-- 45 R202, R203, R204: HPASS loads BUF only and stores each word `SCR[0 .. W*H-1]` once, in ascending order; VPASS loads SCR
only and stores each word `BUF[0 .. W*H-1]` once. -/
def Obligations.EachPassStoresEachWordOnce : Prop :=
  ∀ (e : Evict) (W H r : Nat), 1 ≤ W → 1 ≤ H → W * H ≤ 2 ^ 32 →
    (∀ m i, Instr.ldp m i ∈ uopsHpass e W H r → m = .buf) ∧
    (∀ m i, Instr.ldp m i ∈ uopsVpass e W H r → m = .scr) ∧
    storedWords (uopsHpass e W H r) = (List.range (W * H)).map (fun i => (Space.scr, BitVec.ofNat 32 i)) ∧
    (storedWords (uopsVpass e W H r)).Perm ((List.range (W * H)).map (fun i => (Space.buf, BitVec.ofNat 32 i)))

/-! ### What a LINE computes -/

/-- 44_line_filter R173: immediately before the WDIV of position `p`, each sum is the sum of its channel over the window of `p`,
and the count is the window's size, as mathematical integers; what is executed is the LINE's own stream up to that WDIV. -/
def Obligations.WindowHoldsBeforeEachDivision : Prop :=
  ∀ (s : State) (ms md : Space) (base stride n r p : Nat),
    ms ≠ md → 1 ≤ stride → 1 ≤ r → r ≤ 100 → p < n → base + (n - 1) * stride < s.cfg.cap →
    (∃ rest, uopsLine s.cfg.evict ms md base stride n r =
      uopsLineToDivision s.cfg.evict ms md base stride n r p ++ .wdiv :: rest) ∧
    ∃ t, runUops (uopsLineToDivision s.cfg.evict ms md base stride n r p) s = .next t ∧
      (∀ c, (t.acc.get c).toNat =
        windowSum s.cfg.evict n r (fun i => channelOf c (s.wordAt ms (base + i * stride))) p) ∧
      t.cnt.toNat = windowCount s.cfg.evict n r p

/-- 44_line_filter R174, with R160, R162 and R165: executing a LINE's stream from any state leaves at every position of the
destination the truncated average of the window of that position, leaves every other word of both spaces, raises no fault, and
changes no register but the latches, the window and UPC. -/
def Obligations.LineComputesTheWindowAverages : Prop :=
  ∀ (s : State) (ms md : Space) (base stride n r : Nat),
    ms ≠ md → 1 ≤ stride → 1 ≤ r → r ≤ 100 → 1 ≤ n → base + (n - 1) * stride < s.cfg.cap →
    ∃ t, runLine ms md base stride n r s = .next t ∧
      (∀ p < n, t.wordAt md (base + p * stride) =
        linePixel s.cfg.evict n r (fun i => s.wordAt ms (base + i * stride)) p) ∧
      (∀ m i, ¬(m = md ∧ ∃ p < n, i = base + p * stride) → t.wordAt m i = s.wordAt m i) ∧
      t = { s with px := t.px, ch := t.ch, q := t.q, acc := t.acc, cnt := t.cnt, upc := t.upc, buf := t.buf, scr := t.scr }

/-- 44_line_filter R161: the window under GE0, its size, its bounds, and that it holds its own position. -/
def Obligations.WindowUnderGe0 : Prop :=
  ∀ n r p : Nat, p < n →
    (∀ i, i ∈ window .ge0 n r p ↔ max 0 ((p : Int) - r) ≤ i ∧ (i : Int) ≤ min ((n : Int) - 1) (p + r)) ∧
    (window .ge0 n r p).Nodup ∧
    (window .ge0 n r p).length = windowCount .ge0 n r p ∧
    p ∈ window .ge0 n r p ∧
    min n (r + 1) ≤ windowCount .ge0 n r p ∧ windowCount .ge0 n r p ≤ min n (2 * r + 1)

/-- 44_line_filter R165: the two eviction tests differ at position 0 only; the window under GT0 is the window under GE0 for
`p ≤ r`, and has position 0 as well, with weight one, for `p ≥ r + 1`; its size is at most `min(n, 2r + 2)`; when `n ≤ r + 1` the
two modes have the same windows and the same output. -/
def Obligations.WindowUnderGt0 : Prop :=
  ∀ n r p : Nat, p < n →
    (p ≤ r → window .gt0 n r p = window .ge0 n r p ∧ windowCount .gt0 n r p = windowCount .ge0 n r p) ∧
    (r + 1 ≤ p → (∀ i, i ∈ window .gt0 n r p ↔ i = 0 ∨ i ∈ window .ge0 n r p) ∧ 0 ∉ window .ge0 n r p ∧
      windowCount .gt0 n r p = windowCount .ge0 n r p + 1) ∧
    (window .gt0 n r p).Nodup ∧
    (window .gt0 n r p).length = windowCount .gt0 n r p ∧
    windowCount .gt0 n r p ≤ min n (2 * r + 2) ∧
    ((evictable .ge0 r p ≠ evictable .gt0 r p) ↔ p = r + 1) ∧
    (n ≤ r + 1 → window .gt0 n r p = window .ge0 n r p ∧ ∀ src, linePixel .gt0 n r src p = linePixel .ge0 n r src p)

/-- 44_line_filter R166, R199 of 45: when `r ≥ n - 1` every window is the whole line and every output is the truncated average
of the whole line, in both modes. -/
def Obligations.LongRadiusAveragesTheWholeLine : Prop :=
  ∀ (e : Evict) (n r p : Nat) (src : Nat → BitVec 32), p < n → n ≤ r + 1 →
    window e n r p = List.range n ∧
    ∀ c, channelOf c (linePixel e n r src p) = ((List.range n).map fun i => channelOf c (src i)).sum / n

/-- 44_line_filter R167, the two shortest lines that reach LINE: one pixel is copied for every radius; two give their truncated
mean twice. -/
def Obligations.ShortestLines : Prop :=
  ∀ (e : Evict) (r : Nat) (src : Nat → BitVec 32),
    linePixel e 1 r src 0 = src 0 ∧
    (1 ≤ r → ∀ p < 2, ∀ c,
      channelOf c (linePixel e 2 r src p) = (channelOf c (src 0) + channelOf c (src 1)) / 2)

/-- 44_line_filter R176: a channel constant along a line is a fixed point, in both modes and for every radius. -/
def Obligations.ConstantLinesAreFixed : Prop :=
  ∀ (e : Evict) (n r p : Nat) (src : Nat → BitVec 32) (c : Channel) (v : Nat), p < n →
    (∀ i < n, channelOf c (src i) = v) →
      windowSum e n r (fun i => channelOf c (src i)) p = v * windowCount e n r p ∧ channelOf c (linePixel e n r src p) = v

/-- 44_line_filter R177: channel `c` of the output depends on channel `c` of the line only; a channel 0 everywhere stays 0 and a
channel 255 everywhere stays 255. -/
def Obligations.ChannelsDoNotMix : Prop :=
  ∀ (e : Evict) (n r p : Nat) (src src' : Nat → BitVec 32) (c : Channel), p < n →
    ((∀ i < n, channelOf c (src i) = channelOf c (src' i)) →
      channelOf c (linePixel e n r src p) = channelOf c (linePixel e n r src' p)) ∧
    ((∀ i < n, channelOf c (src i) = 0) → channelOf c (linePixel e n r src p) = 0) ∧
    ((∀ i < n, channelOf c (src i) = 255) → channelOf c (linePixel e n r src p) = 255)

/-- 44_line_filter R178: each output channel lies between the smallest and the largest input of its window, and in 0 to 255. -/
def Obligations.OutputsStayWithinTheWindow : Prop :=
  ∀ (e : Evict) (n r p : Nat) (src : Nat → BitVec 32) (c : Channel), p < n →
    (∃ i ∈ window e n r p, channelOf c (src i) ≤ channelOf c (linePixel e n r src p)) ∧
    (∃ i ∈ window e n r p, channelOf c (linePixel e n r src p) ≤ channelOf c (src i)) ∧
    channelOf c (linePixel e n r src p) ≤ 255

/-- 44_line_filter R179, its first and second sentence: under GE0 the filter commutes with reversal of the line; under GT0 it
does not. -/
def Obligations.ReversalSymmetryHoldsUnderGe0Only : Prop :=
  (∀ (n r p : Nat) (src : Nat → BitVec 32), p < n →
    linePixel .ge0 n r (fun i => src (n - 1 - i)) p = linePixel .ge0 n r src (n - 1 - p)) ∧
  (∃ (n r p : Nat) (src : Nat → BitVec 32), p < n ∧
    linePixel .gt0 n r (fun i => src (n - 1 - i)) p ≠ linePixel .gt0 n r src (n - 1 - p))

/-- 42_accumulator R140: with a legal radius, the window holds at most 201 pixels under GE0 and 202 under GT0, and a channel's
sum over it is at most 51255 and 51510. -/
def Obligations.WindowSumsStayBounded : Prop :=
  ∀ (n r p : Nat) (src : Nat → BitVec 32) (c : Channel), p < n → 1 ≤ r → r ≤ 100 →
    windowCount .ge0 n r p ≤ 201 ∧ windowSum .ge0 n r (fun i => channelOf c (src i)) p ≤ 51255 ∧
    windowCount .gt0 n r p ≤ 202 ∧ windowSum .gt0 n r (fun i => channelOf c (src i)) p ≤ 51510

/-! ### What an APPLY computes -/

/-- 45 R205, R196, 20_memory R53: from an idle block without a fault, with legal parameters and APPLY written to the CMD port,
the step that accepts the command and the micro-ops of its stream leave in BUF the blurred image of R205, every other word of
BUF and every parameter register unchanged, STATUS as it was, and the host's next move waiting; every word of SCR is unspecified
again (10_state R36, 20_memory R56). The free values of a new draw are the model's form of that (DESIGN CHOICE, log 6), and so is
the number of steps: one for the acceptance and one for each micro-op (DESIGN CHOICE, log 13). -/
def Obligations.ApplyBlursTheImage : Prop :=
  ∀ (s : State) (rest : List HostMove), Ready s → NextCommand s 0x40000000#32 rest → s.meanwhile = [] →
    ParametersLegal s →
    ∃ t, Host.Core.run Sys2Proof.core (1 + applyCost s.cfg.evict s.widthNat s.heightNat s.radiusNat) s = .next t ∧
      (∀ y < s.heightNat, ∀ x < s.widthNat, t.wordAt .buf (y * s.widthNat + x) =
        blurredPixel s.cfg.evict s.widthNat s.heightNat s.radiusNat s.image y x) ∧
      (∀ i, s.widthNat * s.heightNat ≤ i → t.wordAt .buf i = s.wordAt .buf i) ∧
      (∀ i, t.wordAt .scr i = Config.unwrittenScr (s.scrDraw + 2) i) ∧
      t.width = s.width ∧ t.height = s.height ∧ t.radius = s.radius ∧ t.status = s.status ∧ t.cfg = s.cfg ∧
      t.bufDraw = s.bufDraw ∧ t.moves = rest ∧ t.meanwhile = [] ∧ t.reply = s.reply

/-- 10_state R39, 45 R206 (e), R204: the result of an APPLY depends on the parameters, EVICT and the active region of BUF only:
not on SCR, the latches, the sums, the count, or the words of BUF outside the region. The number of steps is the model's (DESIGN
CHOICE, log 13), and nothing else reaches the block during them (log 20). -/
def Obligations.ApplyResultDependsOnTheImageOnly : Prop :=
  ∀ (s s' : State) (rest rest' : List HostMove),
    Ready s → NextCommand s 0x40000000#32 rest → s.meanwhile = [] → ParametersLegal s →
    Ready s' → NextCommand s' 0x40000000#32 rest' → s'.meanwhile = [] → ParametersLegal s' →
    s'.cfg.evict = s.cfg.evict → s'.width = s.width → s'.height = s.height → s'.radius = s.radius →
    (∀ i < s.widthNat * s.heightNat, s'.wordAt .buf i = s.wordAt .buf i) →
    ∃ t t',
      Host.Core.run Sys2Proof.core (1 + applyCost s.cfg.evict s.widthNat s.heightNat s.radiusNat) s = .next t ∧
      Host.Core.run Sys2Proof.core (1 + applyCost s.cfg.evict s.widthNat s.heightNat s.radiusNat) s' = .next t' ∧
      ∀ i < s.widthNat * s.heightNat, t'.wordAt .buf i = t.wordAt .buf i

/-- 42_accumulator R136, 60_exceptions R223, 45 R200: from an accepted APPLY every step up to its completion answers a next
state with no fault raised, and at every WDIV of the stream CNT is at least 1. The number of steps is the model's (DESIGN CHOICE,
log 13), and nothing else reaches the block during them (log 20). -/
def Obligations.NoApplyDividesByZero : Prop :=
  ∀ (s : State) (rest : List HostMove), Ready s → NextCommand s 0x40000000#32 rest → s.meanwhile = [] →
    ParametersLegal s →
    ∀ k ≤ 1 + applyCost s.cfg.evict s.widthNat s.heightNat s.radiusNat,
      ∃ t, Host.Core.run Sys2Proof.core k s = .next t ∧ t.faulted = false ∧
        (t.busy = true → fetchBundle t = some (bundleOf .wdiv) → 1 ≤ t.cnt.toNat)

/-- 45 R207, 30_encoding R95: three APPLYs in a row leave the image blurred three times, with the registers unchanged. The number
of steps is the model's (DESIGN CHOICE, log 13), and nothing else reaches the block during them (log 20). -/
def Obligations.Blur3BlursThreeTimes : Prop :=
  ∀ (s : State) (rest : List HostMove), Ready s →
    s.moves = (commandWords blur3).map HostMove.cmd ++ rest → s.meanwhile = [] → ParametersLegal s →
    ∃ t, Host.Core.run Sys2Proof.core (3 * (1 + applyCost s.cfg.evict s.widthNat s.heightNat s.radiusNat)) s = .next t ∧
      (∀ y < s.heightNat, ∀ x < s.widthNat, t.wordAt .buf (y * s.widthNat + x) =
        blurredPixel s.cfg.evict s.widthNat s.heightNat s.radiusNat
          (blurredPixel s.cfg.evict s.widthNat s.heightNat s.radiusNat
            (blurredPixel s.cfg.evict s.widthNat s.heightNat s.radiusNat s.image)) y x) ∧
      (∀ i, s.widthNat * s.heightNat ≤ i → t.wordAt .buf i = s.wordAt .buf i) ∧
      t.width = s.width ∧ t.height = s.height ∧ t.radius = s.radius ∧ t.status = s.status ∧ t.moves = rest

/-- 45 R207, 60_exceptions R227: when the first APPLY of BLUR3 faults, the second and the third are discarded, and STATUS is all
that has changed. One command word is one step by the model's choice (DESIGN CHOICE, log 13). -/
def Obligations.Blur3AfterAFaultChangesNothing : Prop :=
  ∀ (s : State) (rest : List HostMove), Ready s →
    s.moves = (commandWords blur3).map HostMove.cmd ++ rest →
    1 ≤ s.widthNat → 1 ≤ s.heightNat →
    (s.radiusNat < 1 ∨ 100 < s.radiusNat) ∨ s.cfg.cap < s.widthNat * s.heightNat →
    ∃ t, Host.Core.run Sys2Proof.core 3 s = .next t ∧ t.faulted = true ∧ t.cause = 1#4 ∧ t.busy = false ∧
      t = { s with status := t.status, moves := rest }

/-- 45 R206 (a): an image whose pixels are all equal is unchanged by the blur, for every radius and in both modes. -/
def Obligations.FlatImagesAreUnchanged : Prop :=
  ∀ (e : Evict) (W H r : Nat) (img : Nat → Nat → BitVec 32) (v : BitVec 32),
    (∀ y < H, ∀ x < W, img y x = v) → ∀ y < H, ∀ x < W, blurredPixel e W H r img y x = v

/-! ### STATUS and faults -/

/-- 60_exceptions R226: raise sets FAULT, writes the cause's code to CAUSE and the detail to INFO, clears BUSY, and changes no
other bit of STATUS and nothing else. -/
def Obligations.RaiseWritesStatusOnly : Prop :=
  ∀ (f : Cause) (info : BitVec 4) (s : State),
    (raise f info s).faulted = true ∧ (raise f info s).cause = f.code ∧ (raise f info s).info = info ∧
    (raise f info s).busy = false ∧
    (raise f info s).status &&& ~~~statusMask = s.status &&& ~~~statusMask ∧
    raise f info s = { s with status := (raise f info s).status }

/-- 60_exceptions R227, 10_state R27: on an idle block with a fault raised, every step but a reset keeps STATUS, the parameter
registers and the latches, so the first fault stays until reset. -/
def Obligations.FaultStaysUntilReset : Prop :=
  ∀ s t : State, s.busy = false → s.faulted = true → step s = .next t →
    (∃ rest, s.moves = .reset :: rest) ∨
    t = { s with buf := t.buf, moves := t.moves, reply := t.reply }

/-! ### The ports and reset -/

/-- 10_state R40: RegRead of 0 to 3 gives WIDTH, HEIGHT and RADIUS zero-extended and STATUS (whose reserved bits are 0), of 4 and
above 0; on an idle block the read changes nothing but what the host has been given. -/
def Obligations.RegReadGivesTheRegisters : Prop :=
  ∀ s : State,
    (regRead s 0#32).toNat = s.width.toNat ∧ (regRead s 1#32).toNat = s.height.toNat ∧
    (regRead s 2#32).toNat = s.radius.toNat ∧
    (s.status &&& ~~~statusMask = 0#32 → regRead s 3#32 = s.status) ∧
    (∀ n : BitVec 32, 4 ≤ n.toNat → regRead s n = 0x00000000#32) ∧
    (∀ n rest, s.busy = false → s.moves = .regRead n :: rest →
      step s = .next { s with moves := rest, reply := some (regRead s n) }) ∧
    (∀ n rest, s.busy = true → s.meanwhile = .regRead n :: rest →
      step s = .next { s with meanwhile := rest, reply := some (regRead s n) })

/-- 20_memory R55: on an idle block, with or without a fault, and for an index below CAP, HostRead gives the host the word of
BUF and HostWrite writes any value to that word and to no other. -/
def Obligations.PixPortReadsAndWritesBuf : Prop :=
  ∀ (s : State) (i v : BitVec 32) (rest : List HostMove), s.busy = false →
    (s.moves = .pixRead i :: rest → i.toNat < s.cfg.cap →
      step s = .next { s with moves := rest, reply := some (s.wordAt .buf i.toNat) }) ∧
    (s.moves = .pixWrite i v :: rest → i.toNat < s.cfg.cap → ∃ t, step s = .next t ∧
      t.wordAt .buf i.toNat = v ∧ SameMemoryBut .buf i.toNat s t ∧ t = { s with moves := rest, buf := t.buf })

/-- 70_reset R250, R251, 10_state R38: the reset event, on an idle block or inside an APPLY, leaves WIDTH, HEIGHT, RADIUS and
STATUS 0 and every word of BUF and SCR unspecified anew, a new draw of free values (the model's form, logs 5, 6, 18). -/
def Obligations.ResetEventClearsTheRegisters : Prop :=
  ∀ (s : State),
    ((∃ rest, s.busy = false ∧ s.moves = .reset :: rest) ∨ (∃ rest, s.busy = true ∧ s.meanwhile = .reset :: rest)) →
    ∃ t, step s = .next t ∧ t.width = 0#16 ∧ t.height = 0#16 ∧ t.radius = 0#16 ∧ t.status = 0#32 ∧ t.cfg = s.cfg ∧
      (∀ i, t.wordAt .buf i = Config.unwrittenBuf (s.bufDraw + 1) i) ∧
      (∀ i, t.wordAt .scr i = Config.unwrittenScr (s.scrDraw + 1) i)

/-- 70_reset R252, its first two sentences, for every instance: the first APPLY after reset does nothing when the host has set
nothing, and raises InvalidArgument with INFO 1 when it has set WIDTH and HEIGHT but not RADIUS (STATUS = 0x00000112). One command
word is one step by the model's choice (DESIGN CHOICE, log 13). -/
def Obligations.FirstApplyAfterReset : Prop :=
  ∀ (c : Config) (w h : BitVec 16),
    exec .apply (State.resetWith c) = .next (State.resetWith c) ∧
    (w ≠ 0#16 → h ≠ 0#16 → ∃ t,
      Host.Core.run Sys2Proof.core 3
        { State.resetWith c with
          moves := [.cmd (0x1000#16 ++ w), .cmd (0x2000#16 ++ h), .cmd 0x40000000#32] } = .next t ∧
      t.status = 0x00000112#32 ∧ t = { State.resetWith c with width := w, height := h, status := t.status })

/-- 10_state R38: the registers the spec gives a reset value, for every instance (the latches' zeros are the model's choice,
log 3, and are not claimed here). -/
def Obligations.ResetRegisters : Prop :=
  ∀ c : Config, (State.resetWith c).width = 0#16 ∧ (State.resetWith c).height = 0#16 ∧
    (State.resetWith c).radius = 0#16 ∧ (State.resetWith c).status = 0x00000000#32 ∧
    (State.resetWith c).busy = false ∧ (State.resetWith c).faulted = false ∧ (State.resetWith c).cause = 0#4 ∧
    (State.resetWith c).info = 0#4

/-! ### The step -/

/-- 10_state R34, R26, R36 with the model's granularity (DESIGN CHOICE, log 13: one micro-op is one step): while an APPLY runs
and nothing else reaches the block, the step is exec of the micro-op the bundle `S[UPC]` decodes to; when after it UPC has
reached the end of the stream, or it has raised a fault, the APPLY has ended: BUSY is 0 and SCR is unspecified (a new draw of
free values, log 6). -/
def Obligations.StepRunsTheDecodedMicroOp : Prop :=
  ∀ (s t : State) (u : BitVec 40) (i : Instr), s.busy = true → s.meanwhile = [] → s.stream[s.upc]? = some u →
    decodeBundle u = .instr i → exec i s = .next t →
    step s = .next (if t.busy = true ∧ t.upc < t.stream.length then t
      else { t with status := statusWithBusy t.status false, scr := [], scrDraw := t.scrDraw + 1 })

/-- 10_state R36, 20_memory R56, the model's form of unspecified (log 6): whenever a step ends an APPLY, by its last micro-op, by
a fault in mid-stream or by reset, every word of SCR holds afterwards a free value of a new draw; and no word of BUF but the one
that micro-op stored is changed by an end other than reset. -/
def Obligations.ScratchIsUnspecifiedWhenAnApplyEnds : Prop :=
  ∀ s t : State, s.busy = true → step s = .next t → t.busy = false →
    (∀ i, t.wordAt .scr i = Config.unwrittenScr (s.scrDraw + 1) i) ∧
    ((∃ rest, s.meanwhile = .reset :: rest) ∨
      ∀ i, t.wordAt .buf i = s.wordAt .buf i ∨
        ∃ j, fetchBundle s = some (bundleOf (.stp .buf j)) ∧ j.toNat = i ∧ t.wordAt .buf i = s.px)

/-- 20_memory R62, 10_state R24, 60_exceptions R235, in the model's form of the host (DESIGN CHOICE, logs 9 and 20): while an
APPLY runs, a step that is not a reset takes no move of the host
and changes no parameter register; an idle block with no move of the host to take stays as it is. -/
def Obligations.HostWaitsForTheBlock : Prop :=
  (∀ s t : State, s.busy = true → (∀ rest, s.meanwhile ≠ .reset :: rest) → step s = .next t →
    t.moves = s.moves ∧ t.width = s.width ∧ t.height = s.height ∧ t.radius = s.radius ∧ t.stream = s.stream) ∧
  (∀ s : State, s.busy = false → s.moves = [] → step s = .next s)

/-- 10_state R21, R22, R23, their sentences on who writes the registers: over all steps, WIDTH, HEIGHT and RADIUS change by SETW,
SETH and SETR, to the immediate, and by reset only. -/
def Obligations.ParameterRegistersChangeByTheirCommandOnly : Prop :=
  ∀ s t : State, step s = .next t →
    ((∃ rest, s.busy = false ∧ s.moves = .reset :: rest) ∨ (∃ rest, s.busy = true ∧ s.meanwhile = .reset :: rest)) ∨
    ((t.width = s.width ∨ ∃ rest, s.busy = false ∧ NextCommand s (0x1000#16 ++ t.width) rest) ∧
     (t.height = s.height ∨ ∃ rest, s.busy = false ∧ NextCommand s (0x2000#16 ++ t.height) rest) ∧
     (t.radius = s.radius ∨ ∃ rest, s.busy = false ∧ NextCommand s (0x3000#16 ++ t.radius) rest))

/-- 10_state R35, R36: over all steps, a word of BUF changes by HostWrite or by STP with `m` = BUF to that word, and by reset,
only; a word of SCR by STP with `m` = SCR to that word, and where it becomes unspecified: when an APPLY is accepted, when it
ends, and by reset. -/
def Obligations.MemoryChangesByStoresOnly : Prop :=
  ∀ s t : State, step s = .next t →
    ((∃ rest, s.busy = false ∧ s.moves = .reset :: rest) ∨ (∃ rest, s.busy = true ∧ s.meanwhile = .reset :: rest)) ∨
    ((∀ i, t.wordAt .buf i = s.wordAt .buf i ∨
        (∃ j v rest, s.busy = false ∧ s.moves = .pixWrite j v :: rest ∧ j.toNat = i ∧ t.wordAt .buf i = v) ∨
        (∃ j, s.busy = true ∧ fetchBundle s = some (bundleOf (.stp .buf j)) ∧ j.toNat = i ∧ t.wordAt .buf i = s.px)) ∧
     (∀ i, t.wordAt .scr i = s.wordAt .scr i ∨
        (∃ rest, s.busy = false ∧ NextCommand s 0x40000000#32 rest) ∨
        (s.busy = true ∧ t.busy = false) ∨
        (∃ j, s.busy = true ∧ fetchBundle s = some (bundleOf (.stp .scr j)) ∧ j.toNat = i ∧ t.wordAt .scr i = s.px)))

/-! ### The invariant -/

/-- The invariant holds after reset, for every instance, and at the machine's reset state. -/
def Obligations.InvariantHoldsAfterReset : Prop :=
  (∀ c : Config, Inv (State.resetWith c)) ∧ Inv Sys2Proof.core.reset

/-- Every step keeps the invariant (Safety.lean): STATUS as 10_state R25 to R27 allow it (reserved bits 0, CAUSE one of the
three codes or 0, CAUSE and INFO 0 while FAULT is 0, never BUSY with FAULT); both memories in canonical form with indices below
CAP (20_memory R51); while BUSY, the stream that of legal parameters and UPC pointing into it (10_state R34). -/
def Obligations.InvariantKeptByEveryStep : Prop :=
  ∀ s t : State, Inv s → step s = .next t → Inv t

/-! ### The host's side -/

/-- 40_radius_estimator R110: ESTR is the formula over the real numbers, with its two clamps. -/
def Obligations.EstrIsTheRealFormula : Prop :=
  ∀ x : Sigma, x.Valid →
    (estr x : Int) =
      min (max ⌊(Real.sqrt (12 * ((x.num : ℝ) / x.den) ^ 2 / 3 + 1) - 1) / 2⌋ 1) 100

/-- 40_radius_estimator R111: `raw` is the largest `n` with `n(n+1) ≤ sigma^2`, and ESTR's values by the thresholds of
sigma squared. -/
def Obligations.EstrByThresholds : Prop :=
  ∀ x : Sigma, x.Valid →
    (∀ n : Nat, ((n : ℚ) * (n + 1) ≤ ((x.num : ℚ) / x.den) ^ 2 ↔ n ≤ estrRaw x)) ∧
    (((x.num : ℚ) / x.den) ^ 2 < 6 → estr x = 1) ∧
    (∀ k : Nat, 2 ≤ k → k ≤ 99 → (k : ℚ) * (k + 1) ≤ ((x.num : ℚ) / x.den) ^ 2 →
      ((x.num : ℚ) / x.den) ^ 2 < ((k : ℚ) + 1) * (k + 2) → estr x = k) ∧
    (10100 ≤ ((x.num : ℚ) / x.den) ^ 2 → estr x = 100)

/-- 40_radius_estimator R115: ESTR is monotone on its domain and its values are 1 to 100; it is 1 at 0 and 100 at 1000. -/
def Obligations.EstrIsMonotoneAndBounded : Prop :=
  (∀ x y : Sigma, x.Valid → y.Valid → x.le y → estr x ≤ estr y) ∧
  (∀ x : Sigma, x.Valid → 1 ≤ estr x ∧ estr x ≤ 100) ∧
  estr ⟨0, 1⟩ = 1 ∧ estr ⟨1000, 1⟩ = 100

/-- 45 R208: GBLUR is SETR of the estimate and then BLUR3, and after that SETR the radius check of APPLY cannot fail; for ESTR
itself and for every evaluation of it that 40 R113 allows. -/
def Obligations.GblurSetsALegalRadius : Prop :=
  ∀ (f : Sigma → Nat) (sigma : Sigma) (s : State), (f = estr ∨ ∃ flt : Estimator, f = flt.eval) → sigma.Valid →
    s.faulted = false →
    gblur f sigma = .setr (BitVec.ofNat 16 (f sigma)) :: blur3 ∧
    ∃ t, exec (.setr (BitVec.ofNat 16 (f sigma))) s = .next t ∧ t.radiusNat = f sigma ∧ badRadius t = false ∧
      t = { s with radius := t.radius }
end

