-- ==== Sys2Proof/Laws/Flags.lean ====
section
/-! SUPPORT. The laws of STATUS: what each field reads after each field is written. -/

namespace Sys2Proof.Machine

/-- Bit by bit, a field insertion writes its own bits and keeps every other. -/
theorem getLsbD_insertField {w : Nat} (st : BitVec 32) (lo : Nat) (v : BitVec w) (h : lo + w ≤ 32) (i : Nat) :
    (insertField st lo v).getLsbD i = if lo ≤ i ∧ i < lo + w then v.getLsbD (i - lo) else st.getLsbD i := by
  unfold insertField
  by_cases hi : i < 32
  · by_cases h1 : i < lo
    · simp [hi, h1]
    · by_cases h2 : i < lo + w
      · have h3 : i - lo < w := by omega
        simp [hi, h1, h2, h3]
      · have h3 : ¬ i - lo < w := by omega
        have h4 : v.getLsbD (i - lo) = false := BitVec.getLsbD_of_ge _ _ (by omega)
        simp [hi, h1, h2, h3, h4]
  · have h2 : ¬(lo ≤ i ∧ i < lo + w) := by omega
    rw [if_neg h2, BitVec.getLsbD_of_ge _ _ (by omega), BitVec.getLsbD_of_ge _ _ (by omega)]

/-- A field read whole from bits outside the one written is kept. -/
theorem extract_insertField_other {w : Nat} (st : BitVec 32) (lo : Nat) (v : BitVec w) (h : lo + w ≤ 32) (at' n : Nat)
    (hd : at' + n ≤ lo ∨ lo + w ≤ at') : (insertField st lo v).extractLsb' at' n = st.extractLsb' at' n := by
  apply BitVec.eq_of_getLsbD_eq
  intro i hi
  simp only [BitVec.getLsbD_extractLsb', getLsbD_insertField st lo v h]
  have : ¬(lo ≤ at' + i ∧ at' + i < lo + w) := by omega
  simp [this]

/-- The field written reads as the value written. -/
theorem extract_insertField_same {w : Nat} (st : BitVec 32) (lo : Nat) (v : BitVec w) (h : lo + w ≤ 32) :
    (insertField st lo v).extractLsb' lo w = v := by
  apply BitVec.eq_of_getLsbD_eq
  intro i hi
  simp only [BitVec.getLsbD_extractLsb', getLsbD_insertField st lo v h]
  simp [hi]

@[simp] theorem statusBusy_withBusy (st : BitVec 32) (b : Bool) : statusBusy (statusWithBusy st b) = b := by
  rw [statusBusy, statusWithBusy, getLsbD_insertField _ _ _ (by omega)]; simp

@[simp] theorem statusFault_withBusy (st : BitVec 32) (b : Bool) : statusFault (statusWithBusy st b) = statusFault st := by
  rw [statusFault, statusFault, statusWithBusy, getLsbD_insertField _ _ _ (by omega)]; simp

@[simp] theorem statusCause_withBusy (st : BitVec 32) (b : Bool) : statusCause (statusWithBusy st b) = statusCause st :=
  extract_insertField_other st 0 _ (by omega) 4 4 (by omega)

@[simp] theorem statusInfo_withBusy (st : BitVec 32) (b : Bool) : statusInfo (statusWithBusy st b) = statusInfo st :=
  extract_insertField_other st 0 _ (by omega) 8 4 (by omega)

@[simp] theorem statusBusy_withFault (st : BitVec 32) (b : Bool) : statusBusy (statusWithFault st b) = statusBusy st := by
  rw [statusBusy, statusBusy, statusWithFault, getLsbD_insertField _ _ _ (by omega)]; simp

@[simp] theorem statusFault_withFault (st : BitVec 32) (b : Bool) : statusFault (statusWithFault st b) = b := by
  rw [statusFault, statusWithFault, getLsbD_insertField _ _ _ (by omega)]; simp

@[simp] theorem statusCause_withFault (st : BitVec 32) (b : Bool) : statusCause (statusWithFault st b) = statusCause st :=
  extract_insertField_other st 1 _ (by omega) 4 4 (by omega)

@[simp] theorem statusInfo_withFault (st : BitVec 32) (b : Bool) : statusInfo (statusWithFault st b) = statusInfo st :=
  extract_insertField_other st 1 _ (by omega) 8 4 (by omega)

@[simp] theorem statusBusy_withCause (st : BitVec 32) (v : BitVec 4) : statusBusy (statusWithCause st v) = statusBusy st := by
  rw [statusBusy, statusBusy, statusWithCause, getLsbD_insertField _ _ _ (by omega)]; simp

@[simp] theorem statusFault_withCause (st : BitVec 32) (v : BitVec 4) : statusFault (statusWithCause st v) = statusFault st := by
  rw [statusFault, statusFault, statusWithCause, getLsbD_insertField _ _ _ (by omega)]; simp

@[simp] theorem statusCause_withCause (st : BitVec 32) (v : BitVec 4) : statusCause (statusWithCause st v) = v :=
  extract_insertField_same st 4 v (by omega)

@[simp] theorem statusInfo_withCause (st : BitVec 32) (v : BitVec 4) : statusInfo (statusWithCause st v) = statusInfo st :=
  extract_insertField_other st 4 _ (by omega) 8 4 (by omega)

@[simp] theorem statusBusy_withInfo (st : BitVec 32) (v : BitVec 4) : statusBusy (statusWithInfo st v) = statusBusy st := by
  rw [statusBusy, statusBusy, statusWithInfo, getLsbD_insertField _ _ _ (by omega)]; simp

@[simp] theorem statusFault_withInfo (st : BitVec 32) (v : BitVec 4) : statusFault (statusWithInfo st v) = statusFault st := by
  rw [statusFault, statusFault, statusWithInfo, getLsbD_insertField _ _ _ (by omega)]; simp

@[simp] theorem statusCause_withInfo (st : BitVec 32) (v : BitVec 4) : statusCause (statusWithInfo st v) = statusCause st :=
  extract_insertField_other st 8 _ (by omega) 4 4 (by omega)

@[simp] theorem statusInfo_withInfo (st : BitVec 32) (v : BitVec 4) : statusInfo (statusWithInfo st v) = v :=
  extract_insertField_same st 8 v (by omega)

/-- Writing BUSY with the value it holds changes nothing. -/
theorem statusWithBusy_self (st : BitVec 32) : statusWithBusy st (statusBusy st) = st := by
  apply BitVec.eq_of_getLsbD_eq
  intro i hi
  simp only [statusWithBusy, getLsbD_insertField _ 0 _ (by omega : 0 + 1 ≤ 32)]
  split
  · next h => obtain rfl : i = 0 := by omega
              simp [statusBusy]
  · rfl

/-- The last write of BUSY wins. -/
@[simp] theorem statusWithBusy_withBusy (st : BitVec 32) (a b : Bool) :
    statusWithBusy (statusWithBusy st a) b = statusWithBusy st b := by
  apply BitVec.eq_of_getLsbD_eq
  intro i hi
  simp only [statusWithBusy, getLsbD_insertField _ 0 _ (by omega : 0 + 1 ≤ 32)]
  split <;> rfl

end Sys2Proof.Machine
end

