-- ==== Sys2Proof/Laws/Memory.lean ====
section
/-! SUPPORT. The laws of memory: read after write, and the canonical form. -/

namespace Sys2Proof.Machine

@[simp] theorem Memory.get?_nil (i : Nat) : Memory.get? [] i = none := rfl

theorem Memory.get?_cons (j : Nat) (v : BitVec 32) (m : Memory) (i : Nat) :
    Memory.get? ((j, v) :: m) i = if i = j then some v else Memory.get? m i := rfl

/-- A read after a write: the written value at its index, the old value everywhere else. -/
theorem Memory.get?_set (m : Memory) (i : Nat) (v : BitVec 32) (j : Nat) :
    Memory.get? (Memory.set m i v) j = if j = i then some v else Memory.get? m j := by
  induction m with
  | nil => simp [Memory.set, Memory.get?]
  | cons c m ih =>
    obtain ⟨k, w⟩ := c
    unfold Memory.set
    split
    · simp [Memory.get?_cons]
    · split
      · next h => subst h; simp only [Memory.get?_cons]; split <;> simp_all
      · next h => simp only [Memory.get?_cons, ih]; split <;> split <;> simp_all

@[simp] theorem Memory.get?_set_same (m : Memory) (i : Nat) (v : BitVec 32) :
    Memory.get? (Memory.set m i v) i = some v := by simp [Memory.get?_set]

theorem Memory.get?_set_other (m : Memory) {i j : Nat} (v : BitVec 32) (h : j ≠ i) :
    Memory.get? (Memory.set m i v) j = Memory.get? m j := by simp [Memory.get?_set, h]

/-- The indices a write leaves: the written one and the old ones. -/
theorem Memory.mem_set {m : Memory} {i : Nat} {v : BitVec 32} {c : Cell} (h : c ∈ Memory.set m i v) :
    c = (i, v) ∨ c ∈ m := by
  induction m with
  | nil => simpa [Memory.set] using h
  | cons d m ih =>
    obtain ⟨k, w⟩ := d
    unfold Memory.set at h
    split at h
    · simpa using h
    · split at h
      · rcases List.mem_cons.1 h with h | h
        · exact .inl h
        · exact .inr (List.mem_cons_of_mem _ h)
      · rcases List.mem_cons.1 h with h | h
        · exact .inr (by simp [h])
        · rcases ih h with h | h
          · exact .inl h
          · exact .inr (List.mem_cons_of_mem _ h)

/-- The canonical form in terms of neighbours: strictly rising indices. -/
theorem Memory.wf_iff_pairwise (m : Memory) : m.wf = true ↔ m.Pairwise (fun c d => c.1 < d.1) := by
  induction m with
  | nil => simp [Memory.wf]
  | cons c m ih =>
    obtain ⟨i, v⟩ := c
    cases m with
    | nil => simp [Memory.wf]
    | cons d m =>
      obtain ⟨j, w⟩ := d
      simp only [Memory.wf, Bool.and_eq_true, decide_eq_true_eq, ih]
      rw [List.pairwise_cons (a := (i, v))]
      constructor
      · rintro ⟨hij, hp⟩
        refine ⟨fun e he => ?_, hp⟩
        rcases List.mem_cons.1 he with rfl | he
        · exact hij
        · exact lt_trans hij ((List.pairwise_cons.1 hp).1 e he)
      · rintro ⟨h, hp⟩
        exact ⟨h (j, w) (by simp), hp⟩

/-- A write keeps the canonical form. -/
theorem Memory.wf_set {m : Memory} (i : Nat) (v : BitVec 32) (h : m.wf = true) : (Memory.set m i v).wf = true := by
  rw [Memory.wf_iff_pairwise] at h ⊢
  induction m with
  | nil => simp [Memory.set]
  | cons c m ih =>
    obtain ⟨k, w⟩ := c
    obtain ⟨hk, hm⟩ := List.pairwise_cons.1 h
    unfold Memory.set
    split
    · next hik =>
      refine List.pairwise_cons.2 ⟨fun d hd => ?_, h⟩
      rcases List.mem_cons.1 hd with rfl | hd
      · exact hik
      · exact lt_trans hik (hk d hd)
    · split
      · next _ hik => subst hik; exact List.pairwise_cons.2 ⟨hk, hm⟩
      · next hik hne =>
        refine List.pairwise_cons.2 ⟨fun d hd => ?_, ih hm⟩
        rcases Memory.mem_set hd with rfl | hd
        · exact lt_of_le_of_ne (not_lt.1 hik) (Ne.symm hne)
        · exact hk d hd

/-- Nothing is listed after reset, so the canonical form holds. -/
theorem reset_memory_wf (c : Config) : (State.resetWith c).buf.wf = true ∧ (State.resetWith c).scr.wf = true := by
  simp [State.resetWith, Memory.wf]

/-! ### The one read and the one write of a state's memory -/

theorem State.wordAt_putWord (s : State) (m : Space) (i : Nat) (v : BitVec 32) (m' : Space) (i' : Nat) :
    (s.putWord m i v).wordAt m' i' = if m' = m ∧ i' = i then v else s.wordAt m' i' := by
  cases m <;> cases m' <;> simp [State.wordAt, State.putWord, State.mem, State.unwritten, Memory.get?_set]
  all_goals by_cases h : i' = i <;> simp [h]

@[simp] theorem State.wordAt_putWord_same (s : State) (m : Space) (i : Nat) (v : BitVec 32) :
    (s.putWord m i v).wordAt m i = v := by simp [State.wordAt_putWord]

theorem State.wordAt_putWord_other (s : State) {m m' : Space} {i i' : Nat} (v : BitVec 32) (h : ¬(m' = m ∧ i' = i)) :
    (s.putWord m i v).wordAt m' i' = s.wordAt m' i' := by simp [State.wordAt_putWord, h]

/-- A word's value depends on its space's list and draw only. -/
theorem State.wordAt_congr {s t : State} (hb : t.buf = s.buf) (hs : t.scr = s.scr) (hbd : t.bufDraw = s.bufDraw)
    (hsd : t.scrDraw = s.scrDraw) (m : Space) (i : Nat) : t.wordAt m i = s.wordAt m i := by
  cases m <;> simp [State.wordAt, State.mem, State.unwritten, hb, hs, hbd, hsd]

/-- A write keeps the canonical form of both spaces. -/
theorem State.putWord_wf (s : State) (m : Space) (i : Nat) (v : BitVec 32) (m' : Space) (h : (s.mem m').wf = true) :
    ((s.putWord m i v).mem m').wf = true := by
  cases m <;> cases m' <;> simp_all [State.putWord, State.mem, Memory.wf_set]

end Sys2Proof.Machine
end

