-- ==== Sys2Proof/Laws/State.lean ====
section
/-! SUPPORT. One lemma per field per update of State, so that no proof unfolds a record update. -/

namespace Sys2Proof.Machine

/-! ### withWidth -/

@[simp] theorem State.withWidth_cfg (s : State) (v : BitVec 16) : (s.withWidth v).cfg = s.cfg := rfl
@[simp] theorem State.withWidth_width (s : State) (v : BitVec 16) : (s.withWidth v).width = v := rfl
@[simp] theorem State.withWidth_height (s : State) (v : BitVec 16) : (s.withWidth v).height = s.height := rfl
@[simp] theorem State.withWidth_radius (s : State) (v : BitVec 16) : (s.withWidth v).radius = s.radius := rfl
@[simp] theorem State.withWidth_status (s : State) (v : BitVec 16) : (s.withWidth v).status = s.status := rfl
@[simp] theorem State.withWidth_px (s : State) (v : BitVec 16) : (s.withWidth v).px = s.px := rfl
@[simp] theorem State.withWidth_ch (s : State) (v : BitVec 16) : (s.withWidth v).ch = s.ch := rfl
@[simp] theorem State.withWidth_q (s : State) (v : BitVec 16) : (s.withWidth v).q = s.q := rfl
@[simp] theorem State.withWidth_acc (s : State) (v : BitVec 16) : (s.withWidth v).acc = s.acc := rfl
@[simp] theorem State.withWidth_cnt (s : State) (v : BitVec 16) : (s.withWidth v).cnt = s.cnt := rfl
@[simp] theorem State.withWidth_upc (s : State) (v : BitVec 16) : (s.withWidth v).upc = s.upc := rfl
@[simp] theorem State.withWidth_buf (s : State) (v : BitVec 16) : (s.withWidth v).buf = s.buf := rfl
@[simp] theorem State.withWidth_scr (s : State) (v : BitVec 16) : (s.withWidth v).scr = s.scr := rfl
@[simp] theorem State.withWidth_stream (s : State) (v : BitVec 16) : (s.withWidth v).stream = s.stream := rfl
@[simp] theorem State.withWidth_bufDraw (s : State) (v : BitVec 16) : (s.withWidth v).bufDraw = s.bufDraw := rfl
@[simp] theorem State.withWidth_scrDraw (s : State) (v : BitVec 16) : (s.withWidth v).scrDraw = s.scrDraw := rfl
@[simp] theorem State.withWidth_moves (s : State) (v : BitVec 16) : (s.withWidth v).moves = s.moves := rfl
@[simp] theorem State.withWidth_meanwhile (s : State) (v : BitVec 16) : (s.withWidth v).meanwhile = s.meanwhile := rfl
@[simp] theorem State.withWidth_reply (s : State) (v : BitVec 16) : (s.withWidth v).reply = s.reply := rfl
@[simp] theorem State.withWidth_busy (s : State) (v : BitVec 16) : (s.withWidth v).busy = s.busy := rfl
@[simp] theorem State.withWidth_faulted (s : State) (v : BitVec 16) : (s.withWidth v).faulted = s.faulted := rfl
@[simp] theorem State.withWidth_cause (s : State) (v : BitVec 16) : (s.withWidth v).cause = s.cause := rfl
@[simp] theorem State.withWidth_info (s : State) (v : BitVec 16) : (s.withWidth v).info = s.info := rfl
@[simp] theorem State.withWidth_heightNat (s : State) (v : BitVec 16) : (s.withWidth v).heightNat = s.heightNat := rfl
@[simp] theorem State.withWidth_radiusNat (s : State) (v : BitVec 16) : (s.withWidth v).radiusNat = s.radiusNat := rfl

/-! ### withHeight -/

@[simp] theorem State.withHeight_cfg (s : State) (v : BitVec 16) : (s.withHeight v).cfg = s.cfg := rfl
@[simp] theorem State.withHeight_width (s : State) (v : BitVec 16) : (s.withHeight v).width = s.width := rfl
@[simp] theorem State.withHeight_height (s : State) (v : BitVec 16) : (s.withHeight v).height = v := rfl
@[simp] theorem State.withHeight_radius (s : State) (v : BitVec 16) : (s.withHeight v).radius = s.radius := rfl
@[simp] theorem State.withHeight_status (s : State) (v : BitVec 16) : (s.withHeight v).status = s.status := rfl
@[simp] theorem State.withHeight_px (s : State) (v : BitVec 16) : (s.withHeight v).px = s.px := rfl
@[simp] theorem State.withHeight_ch (s : State) (v : BitVec 16) : (s.withHeight v).ch = s.ch := rfl
@[simp] theorem State.withHeight_q (s : State) (v : BitVec 16) : (s.withHeight v).q = s.q := rfl
@[simp] theorem State.withHeight_acc (s : State) (v : BitVec 16) : (s.withHeight v).acc = s.acc := rfl
@[simp] theorem State.withHeight_cnt (s : State) (v : BitVec 16) : (s.withHeight v).cnt = s.cnt := rfl
@[simp] theorem State.withHeight_upc (s : State) (v : BitVec 16) : (s.withHeight v).upc = s.upc := rfl
@[simp] theorem State.withHeight_buf (s : State) (v : BitVec 16) : (s.withHeight v).buf = s.buf := rfl
@[simp] theorem State.withHeight_scr (s : State) (v : BitVec 16) : (s.withHeight v).scr = s.scr := rfl
@[simp] theorem State.withHeight_stream (s : State) (v : BitVec 16) : (s.withHeight v).stream = s.stream := rfl
@[simp] theorem State.withHeight_bufDraw (s : State) (v : BitVec 16) : (s.withHeight v).bufDraw = s.bufDraw := rfl
@[simp] theorem State.withHeight_scrDraw (s : State) (v : BitVec 16) : (s.withHeight v).scrDraw = s.scrDraw := rfl
@[simp] theorem State.withHeight_moves (s : State) (v : BitVec 16) : (s.withHeight v).moves = s.moves := rfl
@[simp] theorem State.withHeight_meanwhile (s : State) (v : BitVec 16) : (s.withHeight v).meanwhile = s.meanwhile := rfl
@[simp] theorem State.withHeight_reply (s : State) (v : BitVec 16) : (s.withHeight v).reply = s.reply := rfl
@[simp] theorem State.withHeight_busy (s : State) (v : BitVec 16) : (s.withHeight v).busy = s.busy := rfl
@[simp] theorem State.withHeight_faulted (s : State) (v : BitVec 16) : (s.withHeight v).faulted = s.faulted := rfl
@[simp] theorem State.withHeight_cause (s : State) (v : BitVec 16) : (s.withHeight v).cause = s.cause := rfl
@[simp] theorem State.withHeight_info (s : State) (v : BitVec 16) : (s.withHeight v).info = s.info := rfl
@[simp] theorem State.withHeight_widthNat (s : State) (v : BitVec 16) : (s.withHeight v).widthNat = s.widthNat := rfl
@[simp] theorem State.withHeight_radiusNat (s : State) (v : BitVec 16) : (s.withHeight v).radiusNat = s.radiusNat := rfl

/-! ### withRadius -/

@[simp] theorem State.withRadius_cfg (s : State) (v : BitVec 16) : (s.withRadius v).cfg = s.cfg := rfl
@[simp] theorem State.withRadius_width (s : State) (v : BitVec 16) : (s.withRadius v).width = s.width := rfl
@[simp] theorem State.withRadius_height (s : State) (v : BitVec 16) : (s.withRadius v).height = s.height := rfl
@[simp] theorem State.withRadius_radius (s : State) (v : BitVec 16) : (s.withRadius v).radius = v := rfl
@[simp] theorem State.withRadius_status (s : State) (v : BitVec 16) : (s.withRadius v).status = s.status := rfl
@[simp] theorem State.withRadius_px (s : State) (v : BitVec 16) : (s.withRadius v).px = s.px := rfl
@[simp] theorem State.withRadius_ch (s : State) (v : BitVec 16) : (s.withRadius v).ch = s.ch := rfl
@[simp] theorem State.withRadius_q (s : State) (v : BitVec 16) : (s.withRadius v).q = s.q := rfl
@[simp] theorem State.withRadius_acc (s : State) (v : BitVec 16) : (s.withRadius v).acc = s.acc := rfl
@[simp] theorem State.withRadius_cnt (s : State) (v : BitVec 16) : (s.withRadius v).cnt = s.cnt := rfl
@[simp] theorem State.withRadius_upc (s : State) (v : BitVec 16) : (s.withRadius v).upc = s.upc := rfl
@[simp] theorem State.withRadius_buf (s : State) (v : BitVec 16) : (s.withRadius v).buf = s.buf := rfl
@[simp] theorem State.withRadius_scr (s : State) (v : BitVec 16) : (s.withRadius v).scr = s.scr := rfl
@[simp] theorem State.withRadius_stream (s : State) (v : BitVec 16) : (s.withRadius v).stream = s.stream := rfl
@[simp] theorem State.withRadius_bufDraw (s : State) (v : BitVec 16) : (s.withRadius v).bufDraw = s.bufDraw := rfl
@[simp] theorem State.withRadius_scrDraw (s : State) (v : BitVec 16) : (s.withRadius v).scrDraw = s.scrDraw := rfl
@[simp] theorem State.withRadius_moves (s : State) (v : BitVec 16) : (s.withRadius v).moves = s.moves := rfl
@[simp] theorem State.withRadius_meanwhile (s : State) (v : BitVec 16) : (s.withRadius v).meanwhile = s.meanwhile := rfl
@[simp] theorem State.withRadius_reply (s : State) (v : BitVec 16) : (s.withRadius v).reply = s.reply := rfl
@[simp] theorem State.withRadius_busy (s : State) (v : BitVec 16) : (s.withRadius v).busy = s.busy := rfl
@[simp] theorem State.withRadius_faulted (s : State) (v : BitVec 16) : (s.withRadius v).faulted = s.faulted := rfl
@[simp] theorem State.withRadius_cause (s : State) (v : BitVec 16) : (s.withRadius v).cause = s.cause := rfl
@[simp] theorem State.withRadius_info (s : State) (v : BitVec 16) : (s.withRadius v).info = s.info := rfl
@[simp] theorem State.withRadius_widthNat (s : State) (v : BitVec 16) : (s.withRadius v).widthNat = s.widthNat := rfl
@[simp] theorem State.withRadius_heightNat (s : State) (v : BitVec 16) : (s.withRadius v).heightNat = s.heightNat := rfl

/-! ### withStatus -/

@[simp] theorem State.withStatus_cfg (s : State) (v : BitVec 32) : (s.withStatus v).cfg = s.cfg := rfl
@[simp] theorem State.withStatus_width (s : State) (v : BitVec 32) : (s.withStatus v).width = s.width := rfl
@[simp] theorem State.withStatus_height (s : State) (v : BitVec 32) : (s.withStatus v).height = s.height := rfl
@[simp] theorem State.withStatus_radius (s : State) (v : BitVec 32) : (s.withStatus v).radius = s.radius := rfl
@[simp] theorem State.withStatus_status (s : State) (v : BitVec 32) : (s.withStatus v).status = v := rfl
@[simp] theorem State.withStatus_px (s : State) (v : BitVec 32) : (s.withStatus v).px = s.px := rfl
@[simp] theorem State.withStatus_ch (s : State) (v : BitVec 32) : (s.withStatus v).ch = s.ch := rfl
@[simp] theorem State.withStatus_q (s : State) (v : BitVec 32) : (s.withStatus v).q = s.q := rfl
@[simp] theorem State.withStatus_acc (s : State) (v : BitVec 32) : (s.withStatus v).acc = s.acc := rfl
@[simp] theorem State.withStatus_cnt (s : State) (v : BitVec 32) : (s.withStatus v).cnt = s.cnt := rfl
@[simp] theorem State.withStatus_upc (s : State) (v : BitVec 32) : (s.withStatus v).upc = s.upc := rfl
@[simp] theorem State.withStatus_buf (s : State) (v : BitVec 32) : (s.withStatus v).buf = s.buf := rfl
@[simp] theorem State.withStatus_scr (s : State) (v : BitVec 32) : (s.withStatus v).scr = s.scr := rfl
@[simp] theorem State.withStatus_stream (s : State) (v : BitVec 32) : (s.withStatus v).stream = s.stream := rfl
@[simp] theorem State.withStatus_bufDraw (s : State) (v : BitVec 32) : (s.withStatus v).bufDraw = s.bufDraw := rfl
@[simp] theorem State.withStatus_scrDraw (s : State) (v : BitVec 32) : (s.withStatus v).scrDraw = s.scrDraw := rfl
@[simp] theorem State.withStatus_moves (s : State) (v : BitVec 32) : (s.withStatus v).moves = s.moves := rfl
@[simp] theorem State.withStatus_meanwhile (s : State) (v : BitVec 32) : (s.withStatus v).meanwhile = s.meanwhile := rfl
@[simp] theorem State.withStatus_reply (s : State) (v : BitVec 32) : (s.withStatus v).reply = s.reply := rfl
@[simp] theorem State.withStatus_widthNat (s : State) (v : BitVec 32) : (s.withStatus v).widthNat = s.widthNat := rfl
@[simp] theorem State.withStatus_heightNat (s : State) (v : BitVec 32) : (s.withStatus v).heightNat = s.heightNat := rfl
@[simp] theorem State.withStatus_radiusNat (s : State) (v : BitVec 32) : (s.withStatus v).radiusNat = s.radiusNat := rfl

/-! ### withPx -/

@[simp] theorem State.withPx_cfg (s : State) (v : BitVec 32) : (s.withPx v).cfg = s.cfg := rfl
@[simp] theorem State.withPx_width (s : State) (v : BitVec 32) : (s.withPx v).width = s.width := rfl
@[simp] theorem State.withPx_height (s : State) (v : BitVec 32) : (s.withPx v).height = s.height := rfl
@[simp] theorem State.withPx_radius (s : State) (v : BitVec 32) : (s.withPx v).radius = s.radius := rfl
@[simp] theorem State.withPx_status (s : State) (v : BitVec 32) : (s.withPx v).status = s.status := rfl
@[simp] theorem State.withPx_px (s : State) (v : BitVec 32) : (s.withPx v).px = v := rfl
@[simp] theorem State.withPx_ch (s : State) (v : BitVec 32) : (s.withPx v).ch = s.ch := rfl
@[simp] theorem State.withPx_q (s : State) (v : BitVec 32) : (s.withPx v).q = s.q := rfl
@[simp] theorem State.withPx_acc (s : State) (v : BitVec 32) : (s.withPx v).acc = s.acc := rfl
@[simp] theorem State.withPx_cnt (s : State) (v : BitVec 32) : (s.withPx v).cnt = s.cnt := rfl
@[simp] theorem State.withPx_upc (s : State) (v : BitVec 32) : (s.withPx v).upc = s.upc := rfl
@[simp] theorem State.withPx_buf (s : State) (v : BitVec 32) : (s.withPx v).buf = s.buf := rfl
@[simp] theorem State.withPx_scr (s : State) (v : BitVec 32) : (s.withPx v).scr = s.scr := rfl
@[simp] theorem State.withPx_stream (s : State) (v : BitVec 32) : (s.withPx v).stream = s.stream := rfl
@[simp] theorem State.withPx_bufDraw (s : State) (v : BitVec 32) : (s.withPx v).bufDraw = s.bufDraw := rfl
@[simp] theorem State.withPx_scrDraw (s : State) (v : BitVec 32) : (s.withPx v).scrDraw = s.scrDraw := rfl
@[simp] theorem State.withPx_moves (s : State) (v : BitVec 32) : (s.withPx v).moves = s.moves := rfl
@[simp] theorem State.withPx_meanwhile (s : State) (v : BitVec 32) : (s.withPx v).meanwhile = s.meanwhile := rfl
@[simp] theorem State.withPx_reply (s : State) (v : BitVec 32) : (s.withPx v).reply = s.reply := rfl
@[simp] theorem State.withPx_busy (s : State) (v : BitVec 32) : (s.withPx v).busy = s.busy := rfl
@[simp] theorem State.withPx_faulted (s : State) (v : BitVec 32) : (s.withPx v).faulted = s.faulted := rfl
@[simp] theorem State.withPx_cause (s : State) (v : BitVec 32) : (s.withPx v).cause = s.cause := rfl
@[simp] theorem State.withPx_info (s : State) (v : BitVec 32) : (s.withPx v).info = s.info := rfl
@[simp] theorem State.withPx_widthNat (s : State) (v : BitVec 32) : (s.withPx v).widthNat = s.widthNat := rfl
@[simp] theorem State.withPx_heightNat (s : State) (v : BitVec 32) : (s.withPx v).heightNat = s.heightNat := rfl
@[simp] theorem State.withPx_radiusNat (s : State) (v : BitVec 32) : (s.withPx v).radiusNat = s.radiusNat := rfl

/-! ### withCh -/

@[simp] theorem State.withCh_cfg (s : State) (v : Lanes 8) : (s.withCh v).cfg = s.cfg := rfl
@[simp] theorem State.withCh_width (s : State) (v : Lanes 8) : (s.withCh v).width = s.width := rfl
@[simp] theorem State.withCh_height (s : State) (v : Lanes 8) : (s.withCh v).height = s.height := rfl
@[simp] theorem State.withCh_radius (s : State) (v : Lanes 8) : (s.withCh v).radius = s.radius := rfl
@[simp] theorem State.withCh_status (s : State) (v : Lanes 8) : (s.withCh v).status = s.status := rfl
@[simp] theorem State.withCh_px (s : State) (v : Lanes 8) : (s.withCh v).px = s.px := rfl
@[simp] theorem State.withCh_ch (s : State) (v : Lanes 8) : (s.withCh v).ch = v := rfl
@[simp] theorem State.withCh_q (s : State) (v : Lanes 8) : (s.withCh v).q = s.q := rfl
@[simp] theorem State.withCh_acc (s : State) (v : Lanes 8) : (s.withCh v).acc = s.acc := rfl
@[simp] theorem State.withCh_cnt (s : State) (v : Lanes 8) : (s.withCh v).cnt = s.cnt := rfl
@[simp] theorem State.withCh_upc (s : State) (v : Lanes 8) : (s.withCh v).upc = s.upc := rfl
@[simp] theorem State.withCh_buf (s : State) (v : Lanes 8) : (s.withCh v).buf = s.buf := rfl
@[simp] theorem State.withCh_scr (s : State) (v : Lanes 8) : (s.withCh v).scr = s.scr := rfl
@[simp] theorem State.withCh_stream (s : State) (v : Lanes 8) : (s.withCh v).stream = s.stream := rfl
@[simp] theorem State.withCh_bufDraw (s : State) (v : Lanes 8) : (s.withCh v).bufDraw = s.bufDraw := rfl
@[simp] theorem State.withCh_scrDraw (s : State) (v : Lanes 8) : (s.withCh v).scrDraw = s.scrDraw := rfl
@[simp] theorem State.withCh_moves (s : State) (v : Lanes 8) : (s.withCh v).moves = s.moves := rfl
@[simp] theorem State.withCh_meanwhile (s : State) (v : Lanes 8) : (s.withCh v).meanwhile = s.meanwhile := rfl
@[simp] theorem State.withCh_reply (s : State) (v : Lanes 8) : (s.withCh v).reply = s.reply := rfl
@[simp] theorem State.withCh_busy (s : State) (v : Lanes 8) : (s.withCh v).busy = s.busy := rfl
@[simp] theorem State.withCh_faulted (s : State) (v : Lanes 8) : (s.withCh v).faulted = s.faulted := rfl
@[simp] theorem State.withCh_cause (s : State) (v : Lanes 8) : (s.withCh v).cause = s.cause := rfl
@[simp] theorem State.withCh_info (s : State) (v : Lanes 8) : (s.withCh v).info = s.info := rfl
@[simp] theorem State.withCh_widthNat (s : State) (v : Lanes 8) : (s.withCh v).widthNat = s.widthNat := rfl
@[simp] theorem State.withCh_heightNat (s : State) (v : Lanes 8) : (s.withCh v).heightNat = s.heightNat := rfl
@[simp] theorem State.withCh_radiusNat (s : State) (v : Lanes 8) : (s.withCh v).radiusNat = s.radiusNat := rfl

/-! ### withQ -/

@[simp] theorem State.withQ_cfg (s : State) (v : Lanes 8) : (s.withQ v).cfg = s.cfg := rfl
@[simp] theorem State.withQ_width (s : State) (v : Lanes 8) : (s.withQ v).width = s.width := rfl
@[simp] theorem State.withQ_height (s : State) (v : Lanes 8) : (s.withQ v).height = s.height := rfl
@[simp] theorem State.withQ_radius (s : State) (v : Lanes 8) : (s.withQ v).radius = s.radius := rfl
@[simp] theorem State.withQ_status (s : State) (v : Lanes 8) : (s.withQ v).status = s.status := rfl
@[simp] theorem State.withQ_px (s : State) (v : Lanes 8) : (s.withQ v).px = s.px := rfl
@[simp] theorem State.withQ_ch (s : State) (v : Lanes 8) : (s.withQ v).ch = s.ch := rfl
@[simp] theorem State.withQ_q (s : State) (v : Lanes 8) : (s.withQ v).q = v := rfl
@[simp] theorem State.withQ_acc (s : State) (v : Lanes 8) : (s.withQ v).acc = s.acc := rfl
@[simp] theorem State.withQ_cnt (s : State) (v : Lanes 8) : (s.withQ v).cnt = s.cnt := rfl
@[simp] theorem State.withQ_upc (s : State) (v : Lanes 8) : (s.withQ v).upc = s.upc := rfl
@[simp] theorem State.withQ_buf (s : State) (v : Lanes 8) : (s.withQ v).buf = s.buf := rfl
@[simp] theorem State.withQ_scr (s : State) (v : Lanes 8) : (s.withQ v).scr = s.scr := rfl
@[simp] theorem State.withQ_stream (s : State) (v : Lanes 8) : (s.withQ v).stream = s.stream := rfl
@[simp] theorem State.withQ_bufDraw (s : State) (v : Lanes 8) : (s.withQ v).bufDraw = s.bufDraw := rfl
@[simp] theorem State.withQ_scrDraw (s : State) (v : Lanes 8) : (s.withQ v).scrDraw = s.scrDraw := rfl
@[simp] theorem State.withQ_moves (s : State) (v : Lanes 8) : (s.withQ v).moves = s.moves := rfl
@[simp] theorem State.withQ_meanwhile (s : State) (v : Lanes 8) : (s.withQ v).meanwhile = s.meanwhile := rfl
@[simp] theorem State.withQ_reply (s : State) (v : Lanes 8) : (s.withQ v).reply = s.reply := rfl
@[simp] theorem State.withQ_busy (s : State) (v : Lanes 8) : (s.withQ v).busy = s.busy := rfl
@[simp] theorem State.withQ_faulted (s : State) (v : Lanes 8) : (s.withQ v).faulted = s.faulted := rfl
@[simp] theorem State.withQ_cause (s : State) (v : Lanes 8) : (s.withQ v).cause = s.cause := rfl
@[simp] theorem State.withQ_info (s : State) (v : Lanes 8) : (s.withQ v).info = s.info := rfl
@[simp] theorem State.withQ_widthNat (s : State) (v : Lanes 8) : (s.withQ v).widthNat = s.widthNat := rfl
@[simp] theorem State.withQ_heightNat (s : State) (v : Lanes 8) : (s.withQ v).heightNat = s.heightNat := rfl
@[simp] theorem State.withQ_radiusNat (s : State) (v : Lanes 8) : (s.withQ v).radiusNat = s.radiusNat := rfl

/-! ### withWindow -/

@[simp] theorem State.withWindow_cfg (s : State) (a : Lanes 32) (n : BitVec 32) : (s.withWindow a n).cfg = s.cfg := rfl
@[simp] theorem State.withWindow_width (s : State) (a : Lanes 32) (n : BitVec 32) : (s.withWindow a n).width = s.width := rfl
@[simp] theorem State.withWindow_height (s : State) (a : Lanes 32) (n : BitVec 32) : (s.withWindow a n).height = s.height := rfl
@[simp] theorem State.withWindow_radius (s : State) (a : Lanes 32) (n : BitVec 32) : (s.withWindow a n).radius = s.radius := rfl
@[simp] theorem State.withWindow_status (s : State) (a : Lanes 32) (n : BitVec 32) : (s.withWindow a n).status = s.status := rfl
@[simp] theorem State.withWindow_px (s : State) (a : Lanes 32) (n : BitVec 32) : (s.withWindow a n).px = s.px := rfl
@[simp] theorem State.withWindow_ch (s : State) (a : Lanes 32) (n : BitVec 32) : (s.withWindow a n).ch = s.ch := rfl
@[simp] theorem State.withWindow_q (s : State) (a : Lanes 32) (n : BitVec 32) : (s.withWindow a n).q = s.q := rfl
@[simp] theorem State.withWindow_acc (s : State) (a : Lanes 32) (n : BitVec 32) : (s.withWindow a n).acc = a := rfl
@[simp] theorem State.withWindow_cnt (s : State) (a : Lanes 32) (n : BitVec 32) : (s.withWindow a n).cnt = n := rfl
@[simp] theorem State.withWindow_upc (s : State) (a : Lanes 32) (n : BitVec 32) : (s.withWindow a n).upc = s.upc := rfl
@[simp] theorem State.withWindow_buf (s : State) (a : Lanes 32) (n : BitVec 32) : (s.withWindow a n).buf = s.buf := rfl
@[simp] theorem State.withWindow_scr (s : State) (a : Lanes 32) (n : BitVec 32) : (s.withWindow a n).scr = s.scr := rfl
@[simp] theorem State.withWindow_stream (s : State) (a : Lanes 32) (n : BitVec 32) : (s.withWindow a n).stream = s.stream := rfl
@[simp] theorem State.withWindow_bufDraw (s : State) (a : Lanes 32) (n : BitVec 32) : (s.withWindow a n).bufDraw = s.bufDraw := rfl
@[simp] theorem State.withWindow_scrDraw (s : State) (a : Lanes 32) (n : BitVec 32) : (s.withWindow a n).scrDraw = s.scrDraw := rfl
@[simp] theorem State.withWindow_moves (s : State) (a : Lanes 32) (n : BitVec 32) : (s.withWindow a n).moves = s.moves := rfl
@[simp] theorem State.withWindow_meanwhile (s : State) (a : Lanes 32) (n : BitVec 32) : (s.withWindow a n).meanwhile = s.meanwhile := rfl
@[simp] theorem State.withWindow_reply (s : State) (a : Lanes 32) (n : BitVec 32) : (s.withWindow a n).reply = s.reply := rfl
@[simp] theorem State.withWindow_busy (s : State) (a : Lanes 32) (n : BitVec 32) : (s.withWindow a n).busy = s.busy := rfl
@[simp] theorem State.withWindow_faulted (s : State) (a : Lanes 32) (n : BitVec 32) : (s.withWindow a n).faulted = s.faulted := rfl
@[simp] theorem State.withWindow_cause (s : State) (a : Lanes 32) (n : BitVec 32) : (s.withWindow a n).cause = s.cause := rfl
@[simp] theorem State.withWindow_info (s : State) (a : Lanes 32) (n : BitVec 32) : (s.withWindow a n).info = s.info := rfl
@[simp] theorem State.withWindow_widthNat (s : State) (a : Lanes 32) (n : BitVec 32) : (s.withWindow a n).widthNat = s.widthNat := rfl
@[simp] theorem State.withWindow_heightNat (s : State) (a : Lanes 32) (n : BitVec 32) : (s.withWindow a n).heightNat = s.heightNat := rfl
@[simp] theorem State.withWindow_radiusNat (s : State) (a : Lanes 32) (n : BitVec 32) : (s.withWindow a n).radiusNat = s.radiusNat := rfl

/-! ### withBusy -/

@[simp] theorem State.withBusy_cfg (s : State) (b : Bool) : (s.withBusy b).cfg = s.cfg := rfl
@[simp] theorem State.withBusy_width (s : State) (b : Bool) : (s.withBusy b).width = s.width := rfl
@[simp] theorem State.withBusy_height (s : State) (b : Bool) : (s.withBusy b).height = s.height := rfl
@[simp] theorem State.withBusy_radius (s : State) (b : Bool) : (s.withBusy b).radius = s.radius := rfl
@[simp] theorem State.withBusy_status (s : State) (b : Bool) : (s.withBusy b).status = statusWithBusy s.status b := rfl
@[simp] theorem State.withBusy_px (s : State) (b : Bool) : (s.withBusy b).px = s.px := rfl
@[simp] theorem State.withBusy_ch (s : State) (b : Bool) : (s.withBusy b).ch = s.ch := rfl
@[simp] theorem State.withBusy_q (s : State) (b : Bool) : (s.withBusy b).q = s.q := rfl
@[simp] theorem State.withBusy_acc (s : State) (b : Bool) : (s.withBusy b).acc = s.acc := rfl
@[simp] theorem State.withBusy_cnt (s : State) (b : Bool) : (s.withBusy b).cnt = s.cnt := rfl
@[simp] theorem State.withBusy_upc (s : State) (b : Bool) : (s.withBusy b).upc = s.upc := rfl
@[simp] theorem State.withBusy_buf (s : State) (b : Bool) : (s.withBusy b).buf = s.buf := rfl
@[simp] theorem State.withBusy_scr (s : State) (b : Bool) : (s.withBusy b).scr = s.scr := rfl
@[simp] theorem State.withBusy_stream (s : State) (b : Bool) : (s.withBusy b).stream = s.stream := rfl
@[simp] theorem State.withBusy_bufDraw (s : State) (b : Bool) : (s.withBusy b).bufDraw = s.bufDraw := rfl
@[simp] theorem State.withBusy_scrDraw (s : State) (b : Bool) : (s.withBusy b).scrDraw = s.scrDraw := rfl
@[simp] theorem State.withBusy_moves (s : State) (b : Bool) : (s.withBusy b).moves = s.moves := rfl
@[simp] theorem State.withBusy_meanwhile (s : State) (b : Bool) : (s.withBusy b).meanwhile = s.meanwhile := rfl
@[simp] theorem State.withBusy_reply (s : State) (b : Bool) : (s.withBusy b).reply = s.reply := rfl
@[simp] theorem State.withBusy_widthNat (s : State) (b : Bool) : (s.withBusy b).widthNat = s.widthNat := rfl
@[simp] theorem State.withBusy_heightNat (s : State) (b : Bool) : (s.withBusy b).heightNat = s.heightNat := rfl
@[simp] theorem State.withBusy_radiusNat (s : State) (b : Bool) : (s.withBusy b).radiusNat = s.radiusNat := rfl

/-! ### advance -/

@[simp] theorem State.advance_cfg (s : State) : s.advance.cfg = s.cfg := rfl
@[simp] theorem State.advance_width (s : State) : s.advance.width = s.width := rfl
@[simp] theorem State.advance_height (s : State) : s.advance.height = s.height := rfl
@[simp] theorem State.advance_radius (s : State) : s.advance.radius = s.radius := rfl
@[simp] theorem State.advance_status (s : State) : s.advance.status = s.status := rfl
@[simp] theorem State.advance_px (s : State) : s.advance.px = s.px := rfl
@[simp] theorem State.advance_ch (s : State) : s.advance.ch = s.ch := rfl
@[simp] theorem State.advance_q (s : State) : s.advance.q = s.q := rfl
@[simp] theorem State.advance_acc (s : State) : s.advance.acc = s.acc := rfl
@[simp] theorem State.advance_cnt (s : State) : s.advance.cnt = s.cnt := rfl
@[simp] theorem State.advance_upc (s : State) : s.advance.upc = s.upc + 1 := rfl
@[simp] theorem State.advance_buf (s : State) : s.advance.buf = s.buf := rfl
@[simp] theorem State.advance_scr (s : State) : s.advance.scr = s.scr := rfl
@[simp] theorem State.advance_stream (s : State) : s.advance.stream = s.stream := rfl
@[simp] theorem State.advance_bufDraw (s : State) : s.advance.bufDraw = s.bufDraw := rfl
@[simp] theorem State.advance_scrDraw (s : State) : s.advance.scrDraw = s.scrDraw := rfl
@[simp] theorem State.advance_moves (s : State) : s.advance.moves = s.moves := rfl
@[simp] theorem State.advance_meanwhile (s : State) : s.advance.meanwhile = s.meanwhile := rfl
@[simp] theorem State.advance_reply (s : State) : s.advance.reply = s.reply := rfl
@[simp] theorem State.advance_busy (s : State) : s.advance.busy = s.busy := rfl
@[simp] theorem State.advance_faulted (s : State) : s.advance.faulted = s.faulted := rfl
@[simp] theorem State.advance_cause (s : State) : s.advance.cause = s.cause := rfl
@[simp] theorem State.advance_info (s : State) : s.advance.info = s.info := rfl
@[simp] theorem State.advance_widthNat (s : State) : s.advance.widthNat = s.widthNat := rfl
@[simp] theorem State.advance_heightNat (s : State) : s.advance.heightNat = s.heightNat := rfl
@[simp] theorem State.advance_radiusNat (s : State) : s.advance.radiusNat = s.radiusNat := rfl

/-! ### withReply -/

@[simp] theorem State.withReply_cfg (s : State) (v : BitVec 32) : (s.withReply v).cfg = s.cfg := rfl
@[simp] theorem State.withReply_width (s : State) (v : BitVec 32) : (s.withReply v).width = s.width := rfl
@[simp] theorem State.withReply_height (s : State) (v : BitVec 32) : (s.withReply v).height = s.height := rfl
@[simp] theorem State.withReply_radius (s : State) (v : BitVec 32) : (s.withReply v).radius = s.radius := rfl
@[simp] theorem State.withReply_status (s : State) (v : BitVec 32) : (s.withReply v).status = s.status := rfl
@[simp] theorem State.withReply_px (s : State) (v : BitVec 32) : (s.withReply v).px = s.px := rfl
@[simp] theorem State.withReply_ch (s : State) (v : BitVec 32) : (s.withReply v).ch = s.ch := rfl
@[simp] theorem State.withReply_q (s : State) (v : BitVec 32) : (s.withReply v).q = s.q := rfl
@[simp] theorem State.withReply_acc (s : State) (v : BitVec 32) : (s.withReply v).acc = s.acc := rfl
@[simp] theorem State.withReply_cnt (s : State) (v : BitVec 32) : (s.withReply v).cnt = s.cnt := rfl
@[simp] theorem State.withReply_upc (s : State) (v : BitVec 32) : (s.withReply v).upc = s.upc := rfl
@[simp] theorem State.withReply_buf (s : State) (v : BitVec 32) : (s.withReply v).buf = s.buf := rfl
@[simp] theorem State.withReply_scr (s : State) (v : BitVec 32) : (s.withReply v).scr = s.scr := rfl
@[simp] theorem State.withReply_stream (s : State) (v : BitVec 32) : (s.withReply v).stream = s.stream := rfl
@[simp] theorem State.withReply_bufDraw (s : State) (v : BitVec 32) : (s.withReply v).bufDraw = s.bufDraw := rfl
@[simp] theorem State.withReply_scrDraw (s : State) (v : BitVec 32) : (s.withReply v).scrDraw = s.scrDraw := rfl
@[simp] theorem State.withReply_moves (s : State) (v : BitVec 32) : (s.withReply v).moves = s.moves := rfl
@[simp] theorem State.withReply_meanwhile (s : State) (v : BitVec 32) : (s.withReply v).meanwhile = s.meanwhile := rfl
@[simp] theorem State.withReply_reply (s : State) (v : BitVec 32) : (s.withReply v).reply = some v := rfl
@[simp] theorem State.withReply_busy (s : State) (v : BitVec 32) : (s.withReply v).busy = s.busy := rfl
@[simp] theorem State.withReply_faulted (s : State) (v : BitVec 32) : (s.withReply v).faulted = s.faulted := rfl
@[simp] theorem State.withReply_cause (s : State) (v : BitVec 32) : (s.withReply v).cause = s.cause := rfl
@[simp] theorem State.withReply_info (s : State) (v : BitVec 32) : (s.withReply v).info = s.info := rfl
@[simp] theorem State.withReply_widthNat (s : State) (v : BitVec 32) : (s.withReply v).widthNat = s.widthNat := rfl
@[simp] theorem State.withReply_heightNat (s : State) (v : BitVec 32) : (s.withReply v).heightNat = s.heightNat := rfl
@[simp] theorem State.withReply_radiusNat (s : State) (v : BitVec 32) : (s.withReply v).radiusNat = s.radiusNat := rfl

@[simp] theorem State.withBusy_busy (s : State) (b : Bool) : (s.withBusy b).busy = b := statusBusy_withBusy _ _
@[simp] theorem State.withBusy_faulted (s : State) (b : Bool) : (s.withBusy b).faulted = s.faulted := statusFault_withBusy _ _
@[simp] theorem State.withBusy_cause (s : State) (b : Bool) : (s.withBusy b).cause = s.cause := statusCause_withBusy _ _
@[simp] theorem State.withBusy_info (s : State) (b : Bool) : (s.withBusy b).info = s.info := statusInfo_withBusy _ _

/-- The last write of BUSY wins. -/
@[simp] theorem State.withBusy_withBusy (s : State) (a b : Bool) : (s.withBusy a).withBusy b = s.withBusy b := by
  simp [State.withBusy, State.withStatus]

/-- Writing BUSY with the value it holds changes nothing. -/
theorem State.withBusy_self (s : State) : s.withBusy s.busy = s := by
  simp [State.withBusy, State.withStatus, State.busy, statusWithBusy_self]

/-! ### putWord -/

@[simp] theorem State.putWord_cfg (s : State) (m : Space) (i : Nat) (v : BitVec 32) : (s.putWord m i v).cfg = s.cfg := by cases m <;> rfl
@[simp] theorem State.putWord_width (s : State) (m : Space) (i : Nat) (v : BitVec 32) : (s.putWord m i v).width = s.width := by cases m <;> rfl
@[simp] theorem State.putWord_height (s : State) (m : Space) (i : Nat) (v : BitVec 32) : (s.putWord m i v).height = s.height := by cases m <;> rfl
@[simp] theorem State.putWord_radius (s : State) (m : Space) (i : Nat) (v : BitVec 32) : (s.putWord m i v).radius = s.radius := by cases m <;> rfl
@[simp] theorem State.putWord_status (s : State) (m : Space) (i : Nat) (v : BitVec 32) : (s.putWord m i v).status = s.status := by cases m <;> rfl
@[simp] theorem State.putWord_px (s : State) (m : Space) (i : Nat) (v : BitVec 32) : (s.putWord m i v).px = s.px := by cases m <;> rfl
@[simp] theorem State.putWord_ch (s : State) (m : Space) (i : Nat) (v : BitVec 32) : (s.putWord m i v).ch = s.ch := by cases m <;> rfl
@[simp] theorem State.putWord_q (s : State) (m : Space) (i : Nat) (v : BitVec 32) : (s.putWord m i v).q = s.q := by cases m <;> rfl
@[simp] theorem State.putWord_acc (s : State) (m : Space) (i : Nat) (v : BitVec 32) : (s.putWord m i v).acc = s.acc := by cases m <;> rfl
@[simp] theorem State.putWord_cnt (s : State) (m : Space) (i : Nat) (v : BitVec 32) : (s.putWord m i v).cnt = s.cnt := by cases m <;> rfl
@[simp] theorem State.putWord_upc (s : State) (m : Space) (i : Nat) (v : BitVec 32) : (s.putWord m i v).upc = s.upc := by cases m <;> rfl
@[simp] theorem State.putWord_stream (s : State) (m : Space) (i : Nat) (v : BitVec 32) : (s.putWord m i v).stream = s.stream := by cases m <;> rfl
@[simp] theorem State.putWord_bufDraw (s : State) (m : Space) (i : Nat) (v : BitVec 32) : (s.putWord m i v).bufDraw = s.bufDraw := by cases m <;> rfl
@[simp] theorem State.putWord_scrDraw (s : State) (m : Space) (i : Nat) (v : BitVec 32) : (s.putWord m i v).scrDraw = s.scrDraw := by cases m <;> rfl
@[simp] theorem State.putWord_moves (s : State) (m : Space) (i : Nat) (v : BitVec 32) : (s.putWord m i v).moves = s.moves := by cases m <;> rfl
@[simp] theorem State.putWord_meanwhile (s : State) (m : Space) (i : Nat) (v : BitVec 32) : (s.putWord m i v).meanwhile = s.meanwhile := by cases m <;> rfl
@[simp] theorem State.putWord_reply (s : State) (m : Space) (i : Nat) (v : BitVec 32) : (s.putWord m i v).reply = s.reply := by cases m <;> rfl
@[simp] theorem State.putWord_busy (s : State) (m : Space) (i : Nat) (v : BitVec 32) : (s.putWord m i v).busy = s.busy := by cases m <;> rfl
@[simp] theorem State.putWord_faulted (s : State) (m : Space) (i : Nat) (v : BitVec 32) : (s.putWord m i v).faulted = s.faulted := by cases m <;> rfl
@[simp] theorem State.putWord_cause (s : State) (m : Space) (i : Nat) (v : BitVec 32) : (s.putWord m i v).cause = s.cause := by cases m <;> rfl
@[simp] theorem State.putWord_info (s : State) (m : Space) (i : Nat) (v : BitVec 32) : (s.putWord m i v).info = s.info := by cases m <;> rfl
@[simp] theorem State.putWord_widthNat (s : State) (m : Space) (i : Nat) (v : BitVec 32) : (s.putWord m i v).widthNat = s.widthNat := by cases m <;> rfl
@[simp] theorem State.putWord_heightNat (s : State) (m : Space) (i : Nat) (v : BitVec 32) : (s.putWord m i v).heightNat = s.heightNat := by cases m <;> rfl
@[simp] theorem State.putWord_radiusNat (s : State) (m : Space) (i : Nat) (v : BitVec 32) : (s.putWord m i v).radiusNat = s.radiusNat := by cases m <;> rfl

/-! ### raise -/

@[simp] theorem raise_cfg (c : Cause) (n : BitVec 4) (s : State) : (raise c n s).cfg = s.cfg := rfl
@[simp] theorem raise_width (c : Cause) (n : BitVec 4) (s : State) : (raise c n s).width = s.width := rfl
@[simp] theorem raise_height (c : Cause) (n : BitVec 4) (s : State) : (raise c n s).height = s.height := rfl
@[simp] theorem raise_radius (c : Cause) (n : BitVec 4) (s : State) : (raise c n s).radius = s.radius := rfl
@[simp] theorem raise_px (c : Cause) (n : BitVec 4) (s : State) : (raise c n s).px = s.px := rfl
@[simp] theorem raise_ch (c : Cause) (n : BitVec 4) (s : State) : (raise c n s).ch = s.ch := rfl
@[simp] theorem raise_q (c : Cause) (n : BitVec 4) (s : State) : (raise c n s).q = s.q := rfl
@[simp] theorem raise_acc (c : Cause) (n : BitVec 4) (s : State) : (raise c n s).acc = s.acc := rfl
@[simp] theorem raise_cnt (c : Cause) (n : BitVec 4) (s : State) : (raise c n s).cnt = s.cnt := rfl
@[simp] theorem raise_upc (c : Cause) (n : BitVec 4) (s : State) : (raise c n s).upc = s.upc := rfl
@[simp] theorem raise_buf (c : Cause) (n : BitVec 4) (s : State) : (raise c n s).buf = s.buf := rfl
@[simp] theorem raise_scr (c : Cause) (n : BitVec 4) (s : State) : (raise c n s).scr = s.scr := rfl
@[simp] theorem raise_stream (c : Cause) (n : BitVec 4) (s : State) : (raise c n s).stream = s.stream := rfl
@[simp] theorem raise_bufDraw (c : Cause) (n : BitVec 4) (s : State) : (raise c n s).bufDraw = s.bufDraw := rfl
@[simp] theorem raise_scrDraw (c : Cause) (n : BitVec 4) (s : State) : (raise c n s).scrDraw = s.scrDraw := rfl
@[simp] theorem raise_moves (c : Cause) (n : BitVec 4) (s : State) : (raise c n s).moves = s.moves := rfl
@[simp] theorem raise_meanwhile (c : Cause) (n : BitVec 4) (s : State) : (raise c n s).meanwhile = s.meanwhile := rfl
@[simp] theorem raise_reply (c : Cause) (n : BitVec 4) (s : State) : (raise c n s).reply = s.reply := rfl

@[simp] theorem raise_busy (c : Cause) (n : BitVec 4) (s : State) : (raise c n s).busy = false := by
  simp [raise, State.busy]
@[simp] theorem raise_faulted (c : Cause) (n : BitVec 4) (s : State) : (raise c n s).faulted = true := by
  simp [raise, State.faulted]
@[simp] theorem raise_cause (c : Cause) (n : BitVec 4) (s : State) : (raise c n s).cause = c.code := by
  simp [raise, State.cause]
@[simp] theorem raise_info (c : Cause) (n : BitVec 4) (s : State) : (raise c n s).info = n := by
  simp [raise, State.info]

/-! ### discardScratch and endApply -/

@[simp] theorem State.discardScratch_cfg (s : State) : s.discardScratch.cfg = s.cfg := rfl
@[simp] theorem State.discardScratch_width (s : State) : s.discardScratch.width = s.width := rfl
@[simp] theorem State.discardScratch_height (s : State) : s.discardScratch.height = s.height := rfl
@[simp] theorem State.discardScratch_radius (s : State) : s.discardScratch.radius = s.radius := rfl
@[simp] theorem State.discardScratch_status (s : State) : s.discardScratch.status = s.status := rfl
@[simp] theorem State.discardScratch_px (s : State) : s.discardScratch.px = s.px := rfl
@[simp] theorem State.discardScratch_ch (s : State) : s.discardScratch.ch = s.ch := rfl
@[simp] theorem State.discardScratch_q (s : State) : s.discardScratch.q = s.q := rfl
@[simp] theorem State.discardScratch_acc (s : State) : s.discardScratch.acc = s.acc := rfl
@[simp] theorem State.discardScratch_cnt (s : State) : s.discardScratch.cnt = s.cnt := rfl
@[simp] theorem State.discardScratch_upc (s : State) : s.discardScratch.upc = s.upc := rfl
@[simp] theorem State.discardScratch_buf (s : State) : s.discardScratch.buf = s.buf := rfl
@[simp] theorem State.discardScratch_scr (s : State) : s.discardScratch.scr = [] := rfl
@[simp] theorem State.discardScratch_stream (s : State) : s.discardScratch.stream = s.stream := rfl
@[simp] theorem State.discardScratch_bufDraw (s : State) : s.discardScratch.bufDraw = s.bufDraw := rfl
@[simp] theorem State.discardScratch_scrDraw (s : State) : s.discardScratch.scrDraw = s.scrDraw + 1 := rfl
@[simp] theorem State.discardScratch_moves (s : State) : s.discardScratch.moves = s.moves := rfl
@[simp] theorem State.discardScratch_meanwhile (s : State) : s.discardScratch.meanwhile = s.meanwhile := rfl
@[simp] theorem State.discardScratch_reply (s : State) : s.discardScratch.reply = s.reply := rfl
@[simp] theorem State.discardScratch_busy (s : State) : s.discardScratch.busy = s.busy := rfl
@[simp] theorem State.discardScratch_faulted (s : State) : s.discardScratch.faulted = s.faulted := rfl
@[simp] theorem State.discardScratch_cause (s : State) : s.discardScratch.cause = s.cause := rfl
@[simp] theorem State.discardScratch_info (s : State) : s.discardScratch.info = s.info := rfl
@[simp] theorem State.discardScratch_widthNat (s : State) : s.discardScratch.widthNat = s.widthNat := rfl
@[simp] theorem State.discardScratch_heightNat (s : State) : s.discardScratch.heightNat = s.heightNat := rfl
@[simp] theorem State.discardScratch_radiusNat (s : State) : s.discardScratch.radiusNat = s.radiusNat := rfl
@[simp] theorem endApply_cfg (s : State) : (endApply s).cfg = s.cfg := rfl
@[simp] theorem endApply_width (s : State) : (endApply s).width = s.width := rfl
@[simp] theorem endApply_height (s : State) : (endApply s).height = s.height := rfl
@[simp] theorem endApply_radius (s : State) : (endApply s).radius = s.radius := rfl
@[simp] theorem endApply_status (s : State) : (endApply s).status = statusWithBusy s.status false := rfl
@[simp] theorem endApply_px (s : State) : (endApply s).px = s.px := rfl
@[simp] theorem endApply_ch (s : State) : (endApply s).ch = s.ch := rfl
@[simp] theorem endApply_q (s : State) : (endApply s).q = s.q := rfl
@[simp] theorem endApply_acc (s : State) : (endApply s).acc = s.acc := rfl
@[simp] theorem endApply_cnt (s : State) : (endApply s).cnt = s.cnt := rfl
@[simp] theorem endApply_upc (s : State) : (endApply s).upc = s.upc := rfl
@[simp] theorem endApply_buf (s : State) : (endApply s).buf = s.buf := rfl
@[simp] theorem endApply_scr (s : State) : (endApply s).scr = [] := rfl
@[simp] theorem endApply_stream (s : State) : (endApply s).stream = s.stream := rfl
@[simp] theorem endApply_bufDraw (s : State) : (endApply s).bufDraw = s.bufDraw := rfl
@[simp] theorem endApply_scrDraw (s : State) : (endApply s).scrDraw = s.scrDraw + 1 := rfl
@[simp] theorem endApply_moves (s : State) : (endApply s).moves = s.moves := rfl
@[simp] theorem endApply_meanwhile (s : State) : (endApply s).meanwhile = s.meanwhile := rfl
@[simp] theorem endApply_reply (s : State) : (endApply s).reply = s.reply := rfl

@[simp] theorem endApply_busy (s : State) : (endApply s).busy = false := statusBusy_withBusy _ _
@[simp] theorem endApply_faulted (s : State) : (endApply s).faulted = s.faulted := statusFault_withBusy _ _
@[simp] theorem endApply_cause (s : State) : (endApply s).cause = s.cause := statusCause_withBusy _ _
@[simp] theorem endApply_info (s : State) : (endApply s).info = s.info := statusInfo_withBusy _ _

/-! ### startApply -/

@[simp] theorem startApply_cfg (s : State) : (startApply s).cfg = s.cfg := rfl
@[simp] theorem startApply_width (s : State) : (startApply s).width = s.width := rfl
@[simp] theorem startApply_height (s : State) : (startApply s).height = s.height := rfl
@[simp] theorem startApply_radius (s : State) : (startApply s).radius = s.radius := rfl
@[simp] theorem startApply_status (s : State) : (startApply s).status = statusWithBusy s.status true := rfl
@[simp] theorem startApply_px (s : State) : (startApply s).px = s.px := rfl
@[simp] theorem startApply_ch (s : State) : (startApply s).ch = s.ch := rfl
@[simp] theorem startApply_q (s : State) : (startApply s).q = s.q := rfl
@[simp] theorem startApply_acc (s : State) : (startApply s).acc = s.acc := rfl
@[simp] theorem startApply_cnt (s : State) : (startApply s).cnt = s.cnt := rfl
@[simp] theorem startApply_upc (s : State) : (startApply s).upc = 0 := rfl
@[simp] theorem startApply_buf (s : State) : (startApply s).buf = s.buf := rfl
@[simp] theorem startApply_scr (s : State) : (startApply s).scr = [] := rfl
@[simp] theorem startApply_stream (s : State) : (startApply s).stream = bundlesApply s.cfg.evict s.widthNat s.heightNat s.radiusNat := rfl
@[simp] theorem startApply_bufDraw (s : State) : (startApply s).bufDraw = s.bufDraw := rfl
@[simp] theorem startApply_scrDraw (s : State) : (startApply s).scrDraw = s.scrDraw + 1 := rfl
@[simp] theorem startApply_moves (s : State) : (startApply s).moves = s.moves := rfl
@[simp] theorem startApply_meanwhile (s : State) : (startApply s).meanwhile = s.meanwhile := rfl
@[simp] theorem startApply_reply (s : State) : (startApply s).reply = s.reply := rfl

@[simp] theorem startApply_busy (s : State) : (startApply s).busy = true := statusBusy_withBusy _ _
@[simp] theorem startApply_faulted (s : State) : (startApply s).faulted = s.faulted := statusFault_withBusy _ _

/-! ### resetEvent -/

@[simp] theorem resetEvent_cfg (s : State) : (resetEvent s).cfg = s.cfg := rfl
@[simp] theorem resetEvent_width (s : State) : (resetEvent s).width = (State.resetWith s.cfg).width := rfl
@[simp] theorem resetEvent_height (s : State) : (resetEvent s).height = (State.resetWith s.cfg).height := rfl
@[simp] theorem resetEvent_radius (s : State) : (resetEvent s).radius = (State.resetWith s.cfg).radius := rfl
@[simp] theorem resetEvent_status (s : State) : (resetEvent s).status = (State.resetWith s.cfg).status := rfl
@[simp] theorem resetEvent_px (s : State) : (resetEvent s).px = (State.resetWith s.cfg).px := rfl
@[simp] theorem resetEvent_ch (s : State) : (resetEvent s).ch = (State.resetWith s.cfg).ch := rfl
@[simp] theorem resetEvent_q (s : State) : (resetEvent s).q = (State.resetWith s.cfg).q := rfl
@[simp] theorem resetEvent_acc (s : State) : (resetEvent s).acc = (State.resetWith s.cfg).acc := rfl
@[simp] theorem resetEvent_cnt (s : State) : (resetEvent s).cnt = (State.resetWith s.cfg).cnt := rfl
@[simp] theorem resetEvent_upc (s : State) : (resetEvent s).upc = (State.resetWith s.cfg).upc := rfl
@[simp] theorem resetEvent_buf (s : State) : (resetEvent s).buf = (State.resetWith s.cfg).buf := rfl
@[simp] theorem resetEvent_scr (s : State) : (resetEvent s).scr = (State.resetWith s.cfg).scr := rfl
@[simp] theorem resetEvent_stream (s : State) : (resetEvent s).stream = (State.resetWith s.cfg).stream := rfl
@[simp] theorem resetEvent_bufDraw (s : State) : (resetEvent s).bufDraw = s.bufDraw + 1 := rfl
@[simp] theorem resetEvent_scrDraw (s : State) : (resetEvent s).scrDraw = s.scrDraw + 1 := rfl
@[simp] theorem resetEvent_moves (s : State) : (resetEvent s).moves = s.moves := rfl
@[simp] theorem resetEvent_meanwhile (s : State) : (resetEvent s).meanwhile = s.meanwhile := rfl
@[simp] theorem resetEvent_reply (s : State) : (resetEvent s).reply = s.reply := rfl

end Sys2Proof.Machine
end

