-- ==== Sys2Proof/Laws/Ops.lean ====
section
/-! SUPPORT. For each shared operation and each meaning, one lemma that says everything it can do; proofs cite these instead
of unfolding. -/

namespace Sys2Proof.Machine

/-! ### Shared operations -/

/-- A load answers a next state exactly when the index names a word. -/
theorem loadWord_next {m : Space} {i : BitVec 32} {s t : State} {k : BitVec 32 → State} :
    loadWord m i s k = .next t ↔ s.cfg.holds i = true ∧ t = k (s.wordAt m i.toNat) := by
  unfold loadWord; split <;> simp_all [eq_comm (a := t)]

/-- A store answers a next state exactly when the index names a word. -/
theorem storeWord_next {m : Space} {i v : BitVec 32} {s t : State} :
    storeWord m i v s = .next t ↔ s.cfg.holds i = true ∧ t = s.putWord m i.toNat v := by
  unfold storeWord; split <;> simp_all [eq_comm (a := t)]

/-- The fault gate: the state as it was while FAULT is 1, the command otherwise. -/
theorem gated_next {s t : State} {k : State → Result} :
    gated s k = .next t ↔ (s.faulted = true ∧ t = s) ∨ (s.faulted = false ∧ k s = .next t) := by
  unfold gated; split <;> simp_all [eq_comm (a := t)]

/-- After a micro-op: the APPLY goes on and nothing happens, or it has ended, with BUSY 0 and SCR unspecified. -/
theorem retire_cases (s : State) :
    (s.busy = true ∧ s.upc < s.stream.length ∧ retire s = s) ∨
    (¬(s.busy = true ∧ s.upc < s.stream.length) ∧ retire s = endApply s) := by
  unfold retire; split <;> simp_all

/-- Once SCR is discarded, every word of it is a free value of the new draw. -/
@[simp] theorem State.wordAt_scr_discardScratch (s : State) (i : Nat) :
    s.discardScratch.wordAt .scr i = Config.unwrittenScr (s.scrDraw + 1) i := rfl

/-- Discarding SCR leaves BUF. -/
@[simp] theorem State.wordAt_buf_discardScratch (s : State) (i : Nat) :
    s.discardScratch.wordAt .buf i = s.wordAt .buf i := rfl

/-! ### The meanings -/

theorem execSetw_next {n : BitVec 16} {s t : State} :
    execSetw n s = .next t ↔ (s.faulted = true ∧ t = s) ∨ (s.faulted = false ∧ t = s.withWidth n) := by
  simp [execSetw, gated_next, eq_comm (a := t)]

theorem execSeth_next {n : BitVec 16} {s t : State} :
    execSeth n s = .next t ↔ (s.faulted = true ∧ t = s) ∨ (s.faulted = false ∧ t = s.withHeight n) := by
  simp [execSeth, gated_next, eq_comm (a := t)]

theorem execSetr_next {n : BitVec 16} {s t : State} :
    execSetr n s = .next t ↔ (s.faulted = true ∧ t = s) ∨ (s.faulted = false ∧ t = s.withRadius n) := by
  simp [execSetr, gated_next, eq_comm (a := t)]

/-- APPLY answers a next state always, one of these five. -/
theorem execApply_next {s t : State} :
    execApply s = .next t ↔
      (s.faulted = true ∧ t = s) ∨
      (s.faulted = false ∧ degenerate s = true ∧ t = s.withBusy false) ∨
      (s.faulted = false ∧ degenerate s = false ∧ badRadius s = true ∧
        t = raise .invalidArgument 1#4 (s.withBusy true)) ∨
      (s.faulted = false ∧ degenerate s = false ∧ badRadius s = false ∧ tooLarge s = true ∧
        t = raise .invalidArgument 2#4 (s.withBusy true)) ∨
      (s.faulted = false ∧ degenerate s = false ∧ badRadius s = false ∧ tooLarge s = false ∧ t = startApply s) := by
  simp only [execApply, gated_next, State.withBusy_withBusy]
  cases s.faulted <;> cases degenerate s <;> cases badRadius s <;> cases tooLarge s <;> simp [eq_comm (a := t)]

theorem execLdp_next {m : Space} {i : BitVec 32} {s t : State} :
    execLdp m i s = .next t ↔ s.cfg.holds i = true ∧ t = (s.withPx (s.wordAt m i.toNat)).advance := loadWord_next

theorem execStp_next {m : Space} {i : BitVec 32} {s t : State} :
    execStp m i s = .next t ↔ s.cfg.holds i = true ∧ t = s.advance.putWord m i.toNat s.px := storeWord_next

theorem execUnpk_next {s t : State} : execUnpk s = .next t ↔ t = (s.withCh (unpack s.px)).advance := by
  simp [execUnpk, eq_comm (a := t)]

theorem execPack_next {s t : State} : execPack s = .next t ↔ t = (s.withPx (pack s.q)).advance := by
  simp [execPack, eq_comm (a := t)]

theorem execWclr_next {s t : State} :
    execWclr s = .next t ↔ t = (s.withWindow (Lanes.splat 0#32) 0#32).advance := by
  simp [execWclr, eq_comm (a := t)]

theorem execWadd_next {s t : State} :
    execWadd s = .next t ↔ t = (s.withWindow (s.acc.zip laneAdd s.ch) (s.cnt + 1#32)).advance := by
  simp [execWadd, eq_comm (a := t)]

theorem execWsub_next {s t : State} :
    execWsub s = .next t ↔ t = (s.withWindow (s.acc.zip laneSub s.ch) (s.cnt - 1#32)).advance := by
  simp [execWsub, eq_comm (a := t)]

theorem execWdiv_next {s t : State} :
    execWdiv s = .next t ↔
      (s.cnt = 0#32 ∧ t = raise .divideByZero 0#4 s) ∨
      (s.cnt ≠ 0#32 ∧ t = (s.withQ (s.acc.map (laneDiv s.cnt))).advance) := by
  unfold execWdiv; split <;> simp_all [eq_comm (a := t)]

/-! ### The step -/

/-- One micro-op: the stream is at its end, or its next bundle decodes and executes. -/
theorem stepMicroOp_next {s t : State} :
    stepMicroOp s = .next t ↔
      (fetchBundle s = none ∧ t = retire s) ∨
      (∃ u i s', fetchBundle s = some u ∧ decodeBundle u = .instr i ∧ exec i s = .next s' ∧ t = retire s') := by
  unfold stepMicroOp
  cases fetchBundle s with
  | none => simp [eq_comm (a := t)]
  | some u =>
    cases hd : decodeBundle u with
    | rejected r => simp [hd]
    | instr i => cases he : exec i s <;> simp [hd, he, eq_comm (a := t)]

/-- A command word: discarded, raised as illegal, or executed. -/
theorem acceptCommand_next {c : BitVec 32} {s t : State} :
    acceptCommand c s = .next t ↔
      (s.faulted = true ∧ t = s) ∨
      (s.faulted = false ∧ ∃ r, decodeCommand c = .rejected r ∧ t = raise .illegalCommand (commandOpc c) s) ∨
      (s.faulted = false ∧ ∃ i, decodeCommand c = .instr i ∧ exec i s = .next t) := by
  unfold acceptCommand
  cases s.faulted <;> cases decodeCommand c <;> simp [eq_comm (a := t)]

theorem hostRead_next {i : BitVec 32} {s t : State} :
    hostRead i s = .next t ↔ s.cfg.holds i = true ∧ t = s.withReply (s.wordAt .buf i.toNat) := loadWord_next

theorem hostWrite_next {i v : BitVec 32} {s t : State} :
    hostWrite i v s = .next t ↔ s.cfg.holds i = true ∧ t = s.putWord .buf i.toNat v := storeWord_next

/-- A step of an idle block, by the host's next move. -/
theorem stepIdle_next {s t : State} :
    stepIdle s = .next t ↔
      (s.moves = [] ∧ t = s) ∨
      (∃ c rest, s.moves = .cmd c :: rest ∧ acceptCommand c { s with moves := rest } = .next t) ∨
      (∃ i rest, s.moves = .pixRead i :: rest ∧ hostRead i { s with moves := rest } = .next t) ∨
      (∃ i v rest, s.moves = .pixWrite i v :: rest ∧ hostWrite i v { s with moves := rest } = .next t) ∨
      (∃ n rest, s.moves = .regRead n :: rest ∧ t = hostRegRead n { s with moves := rest }) ∨
      (∃ rest, s.moves = .reset :: rest ∧ t = resetEvent { s with moves := rest }) := by
  unfold stepIdle
  rcases h : s.moves with _ | ⟨_ | _ | _ | _ | _, rest⟩ <;> simp [eq_comm (a := t)]

/-- A step while an APPLY runs, by what reaches the block meanwhile. -/
theorem stepBusy_next {s t : State} :
    stepBusy s = .next t ↔
      (s.meanwhile = [] ∧ stepMicroOp s = .next t) ∨
      (∃ rest, s.meanwhile = .blockRuns :: rest ∧ stepMicroOp { s with meanwhile := rest } = .next t) ∨
      (∃ n rest, s.meanwhile = .regRead n :: rest ∧ t = hostRegRead n { s with meanwhile := rest }) ∨
      (∃ rest, s.meanwhile = .reset :: rest ∧ t = resetEvent { s with meanwhile := rest }) := by
  unfold stepBusy
  rcases h : s.meanwhile with _ | ⟨_ | _ | _, rest⟩ <;> simp [eq_comm (a := t)]

/-- Running a list of operations: the first, then the rest. -/
theorem runUops_cons_next {i : Instr} {is : List Instr} {s t : State} :
    runUops (i :: is) s = .next t ↔ ∃ s', exec i s = .next s' ∧ runUops is s' = .next t := by
  rw [runUops]
  cases exec i s <;> simp

/-- Running two lists one after the other. -/
theorem runUops_append_next {is js : List Instr} {s t : State} :
    runUops (is ++ js) s = .next t ↔ ∃ s', runUops is s = .next s' ∧ runUops js s' = .next t := by
  induction is generalizing s with
  | nil => simp [runUops]
  | cons i is ih =>
    simp only [List.cons_append, runUops_cons_next, ih]
    constructor
    · rintro ⟨a, ha, b, hb, hc⟩; exact ⟨b, ⟨a, ha, hb⟩, hc⟩
    · rintro ⟨b, ⟨a, ha, hb⟩, hc⟩; exact ⟨a, ha, b, hb, hc⟩

end Sys2Proof.Machine
end

