-- ==== Sys2Proof/Laws/PerInstr.lean ====
section
/-! SUPPORT. A fact about every operation as syntax, one lemma per constructor: its word matches its row of
spec/opcode_table.json, and no other row. -/

namespace Sys2Proof.Laws

/-- A row of spec/opcode_table.json: the bits of the word under `mask` are `pattern` (30_encoding R87, R88). -/
structure TableRow where
  width : Nat
  pattern : Nat
  mask : Nat
deriving DecidableEq, Repr

/-- The table's rows, by operation. -/
def tableRow : Instr → TableRow
  | .setw _ => ⟨32, 0x10000000, 0xFFFF0000⟩
  | .seth _ => ⟨32, 0x20000000, 0xFFFF0000⟩
  | .setr _ => ⟨32, 0x30000000, 0xFFFF0000⟩
  | .apply => ⟨32, 0x40000000, 0xFFFFFFFF⟩
  | .ldp _ _ => ⟨40, 0x1000000000, 0xFE00000000⟩
  | .stp _ _ => ⟨40, 0x2000000000, 0xFE00000000⟩
  | .unpk => ⟨40, 0x3000000000, 0xFFFFFFFFFF⟩
  | .pack => ⟨40, 0x4000000000, 0xFFFFFFFFFF⟩
  | .wclr => ⟨40, 0x5000000000, 0xFFFFFFFFFF⟩
  | .wadd => ⟨40, 0x6000000000, 0xFFFFFFFFFF⟩
  | .wsub => ⟨40, 0x7000000000, 0xFFFFFFFFFF⟩
  | .wdiv => ⟨40, 0x8000000000, 0xFFFFFFFFFF⟩

/-- A word matches a row of its own width. -/
def Matches (e : Encoded) (row : TableRow) : Prop :=
  match e with
  | .command c => row.width = 32 ∧ c &&& BitVec.ofNat 32 row.mask = BitVec.ofNat 32 row.pattern
  | .bundle u => row.width = 40 ∧ u &&& BitVec.ofNat 40 row.mask = BitVec.ofNat 40 row.pattern

/-- A SET command's word under the mask of its row. -/
theorem commandWord_masked (opc : BitVec 4) (n : BitVec 16) :
    commandWord opc n &&& 0xFFFF0000#32 = commandWord opc 0#16 := by
  apply BitVec.eq_of_getLsbD_eq
  intro i hi
  simp only [commandWord, BitVec.getLsbD_and, BitVec.getLsbD_append]
  interval_cases i <;> simp

/-- A load's or a store's bundle under the mask of its row. -/
theorem bundleWord_masked (uop : BitVec 4) (m : BitVec 1) (i : BitVec 32) :
    bundleWord uop m i &&& 0xFE00000000#40 = bundleWord uop 0#1 0#32 := by
  apply BitVec.eq_of_getLsbD_eq
  intro j hj
  simp only [bundleWord, BitVec.getLsbD_and, BitVec.getLsbD_append]
  interval_cases j <;> simp

namespace TablePattern

/-- The operation's word matches its row of the opcode table. -/
def Statement (i : Instr) : Prop := Matches (encode i) (tableRow i)

theorem setw (imm16 : BitVec 16) : Statement (.setw imm16) :=
  ⟨rfl, (commandWord_masked 0x1#4 imm16).trans (by decide : commandWord 0x1#4 0#16 = 0x10000000#32)⟩
theorem seth (imm16 : BitVec 16) : Statement (.seth imm16) :=
  ⟨rfl, (commandWord_masked 0x2#4 imm16).trans (by decide : commandWord 0x2#4 0#16 = 0x20000000#32)⟩
theorem setr (imm16 : BitVec 16) : Statement (.setr imm16) :=
  ⟨rfl, (commandWord_masked 0x3#4 imm16).trans (by decide : commandWord 0x3#4 0#16 = 0x30000000#32)⟩
theorem apply : Statement .apply := ⟨rfl, by decide⟩
theorem ldp (m : Space) (idx : BitVec 32) : Statement (.ldp m idx) :=
  ⟨rfl, (bundleWord_masked 0x1#4 (bitOfSpace m) idx).trans (by decide : bundleWord 0x1#4 0#1 0#32 = 0x1000000000#40)⟩
theorem stp (m : Space) (idx : BitVec 32) : Statement (.stp m idx) :=
  ⟨rfl, (bundleWord_masked 0x2#4 (bitOfSpace m) idx).trans (by decide : bundleWord 0x2#4 0#1 0#32 = 0x2000000000#40)⟩
theorem unpk : Statement .unpk := ⟨rfl, by decide⟩
theorem pack : Statement .pack := ⟨rfl, by decide⟩
theorem wclr : Statement .wclr := ⟨rfl, by decide⟩
theorem wadd : Statement .wadd := ⟨rfl, by decide⟩
theorem wsub : Statement .wsub := ⟨rfl, by decide⟩
theorem wdiv : Statement .wdiv := ⟨rfl, by decide⟩

end TablePattern

end Sys2Proof.Laws
end

