-- ==== Sys2Proof/Tests/Slice0.lean ====
section
/-! SUPPORT. Tests of the model against words and results the spec writes out (95_test_vectors), and for every statement with
hypotheses a concrete case that meets them. -/

namespace Sys2Proof.Tests

open Sys2Proof.Machine

/-! ### Helpers -/

/-- The next state, if there is one. -/
def nextOf : Result → Option State
  | .next t => some t
  | _ => none

/-- CAP = 16, EVICT = GE0 (the instance of V55). -/
def cap16 : Config := { lastIndex := 15#32, evict := .ge0 }

/-- CAP = 16, EVICT = GT0. -/
def cap16gt0 : Config := { lastIndex := 15#32, evict := .gt0 }

/-- The reset state with CAP = 16. -/
def idle16 : State := State.resetWith cap16

/-- An idle block with WIDTH, HEIGHT and RADIUS set. -/
def sized (w h r : Nat) : State :=
  { idle16 with width := BitVec.ofNat 16 w, height := BitVec.ofNat 16 h, radius := BitVec.ofNat 16 r }

/-- The host is about to write APPLY to the CMD port of a 2 by 1 image with radius 1 (P3). -/
def aboutToApply : State :=
  { sized 2 1 1 with buf := [(0, 0xFF102030#32), (1, 0xFF304050#32)], moves := [.cmd 0x40000000#32] }

/-- A block that has raised IllegalCommand (V58). -/
def faulted16 : State := { idle16 with status := 0x00000522#32 }

/-- A block executing a bundle, with another to follow. -/
def running (u : BitVec 40) : State := (State.resetWith cap16).withFetchWord 40 u.toNat

/-- A block executing the last bundle of its APPLY. -/
def finishing (u : BitVec 40) : State := { running u with stream := [u] }

/-! ### Well-formedness refuses an index that names no word (20_memory R51) -/

theorem test_wellFormed_refuses_ldp_beyond : Instr.wellFormed cap16 (.ldp .buf 16#32) = false := by decide
theorem test_wellFormed_refuses_stp_beyond : Instr.wellFormed cap16 (.stp .scr 16#32) = false := by decide
theorem test_wellFormed_accepts_last : Instr.wellFormed cap16 (.ldp .scr 15#32) = true := by decide

/-! ### Decoding and encoding: words written out in 95_test_vectors V50 to V61 and V70 to V82 -/

theorem test_decode_setw : decodeTableWord 32 0x10000005 = some (.setw 5#16) := by decide
theorem test_decode_seth : decodeTableWord 32 0x2000FFFF = some (.seth 65535#16) := by decide
theorem test_decode_setr : decodeTableWord 32 0x30000064 = some (.setr 100#16) := by decide
theorem test_decode_apply : decodeTableWord 32 0x40000000 = some .apply := by decide
theorem test_decode_ldp_scr : decodeTableWord 40 0x1100000018 = some (.ldp .scr 24#32) := by decide
theorem test_decode_ldp_last : decodeTableWord 40 0x10FFFFFFFF = some (.ldp .buf 4294967295#32) := by decide
theorem test_decode_stp_buf : decodeTableWord 40 0x2000000007 = some (.stp .buf 7#32) := by decide
theorem test_decode_stp_scr : decodeTableWord 40 0x2100000006 = some (.stp .scr 6#32) := by decide
theorem test_decode_unpk : decodeTableWord 40 0x3000000000 = some .unpk := by decide
theorem test_decode_pack : decodeTableWord 40 0x4000000000 = some .pack := by decide
theorem test_decode_wclr : decodeTableWord 40 0x5000000000 = some .wclr := by decide
theorem test_decode_wadd : decodeTableWord 40 0x6000000000 = some .wadd := by decide
theorem test_decode_wsub : decodeTableWord 40 0x7000000000 = some .wsub := by decide
theorem test_decode_wdiv : decodeTableWord 40 0x8000000000 = some .wdiv := by decide
theorem test_decode_rejects_zero : decodeCommand 0x00000000#32 = .rejected (.illegalOpcode 0#4) := by decide
theorem test_decode_rejects_opc5 : decodeCommand 0x50000000#32 = .rejected (.illegalOpcode 5#4) := by decide
theorem test_decode_rejects_rsv : decodeCommand 0x10010005#32 = .rejected .commandReservedBits := by decide
theorem test_decode_rejects_apply_imm : decodeCommand 0x40000001#32 = .rejected .applyImmediate := by decide
theorem test_decode_rejects_uop9 : decodeBundle 0x9000000000#40 = .rejected (.unassignedMicroOp 9#4) := by decide
theorem test_decode_rejects_bit33 : decodeBundle 0x1200000000#40 = .rejected .bundleReservedBits := by decide
theorem test_decode_rejects_operand : decodeBundle 0x3000000001#40 = .rejected .unusedOperandBits := by decide
theorem test_encode_setr : encode (.setr 500#16) = .command 0x300001F4#32 := by decide
theorem test_encode_ldp : encode (.ldp .buf 12#32) = .bundle 0x100000000C#40 := by decide
theorem test_encode_stp : encode (.stp .scr 6#32) = .bundle 0x2100000006#40 := by decide

/-! ### One step of each operation (95_test_vectors V1 to V23, V50 to V63) -/

-- V50, V51, V52
theorem test_setw : (nextOf (exec (.setw 5#16) idle16)).map (·.width) = some 5#16 := by decide
theorem test_seth : (nextOf (exec (.seth 65535#16) idle16)).map (·.height) = some 65535#16 := by decide
theorem test_setr : (nextOf (exec (.setr 500#16) idle16)).map (·.radius) = some 500#16 := by decide
-- V62: a faulted block discards the word
theorem test_setw_faulted : (nextOf (exec (.setw 5#16) faulted16)).map (·.width) = some 0#16 := by decide
-- V54, V55, V56, V46 (d)
theorem test_apply_bad_radius : (nextOf (exec .apply (sized 2 2 101))).map (·.status) = some 0x00000112#32 := by decide
theorem test_apply_too_large : (nextOf (exec .apply (sized 5 5 1))).map (·.status) = some 0x00000212#32 := by decide
-- V21, V73
theorem test_ldp : (nextOf (exec (.ldp .buf 12#32) { idle16 with buf := [(12, 0xFFFF0000#32)] })).map (·.px)
    = some 0xFFFF0000#32 := by decide
-- V22
theorem test_stp : (nextOf (exec (.stp .scr 6#32) { idle16 with px := 0xFF550000#32 })).map (fun t => (t.scr, t.buf, t.upc))
    = some ([(6, 0xFF550000#32)], [], 1) := by decide
-- V1, V4
theorem test_unpk : (nextOf (exec .unpk { idle16 with px := 0xFF336699#32 })).map (·.ch)
    = some ⟨0xFF#8, 0x33#8, 0x66#8, 0x99#8⟩ := by decide
theorem test_unpk_top_bit : (nextOf (exec .unpk { idle16 with px := 0x80000001#32 })).map (·.ch)
    = some ⟨0x80#8, 0#8, 0#8, 0x01#8⟩ := by decide
-- V5, V6
theorem test_pack : (nextOf (exec .pack { idle16 with q := ⟨1#8, 2#8, 3#8, 4#8⟩ })).map (·.px) = some 0x01020304#32 := by decide
theorem test_pack_edges : (nextOf (exec .pack { idle16 with q := ⟨0#8, 0xFF#8, 0#8, 0xFF#8⟩ })).map (·.px)
    = some 0x00FF00FF#32 := by decide
-- R130's example
theorem test_wclr : (nextOf (exec .wclr { idle16 with acc := ⟨765#32, 28#32, 0#32, 0#32⟩, cnt := 3#32 })).map
    (fun t => (t.acc, t.cnt)) = some (⟨0#32, 0#32, 0#32, 0#32⟩, 0#32) := by decide
-- V12, V18
theorem test_wadd : (nextOf (exec .wadd { idle16 with acc := ⟨0xFF#32, 0#32, 0#32, 9#32⟩, cnt := 1#32, ch := ⟨0xFF#8, 0#8, 0#8, 3#8⟩ })).map
    (fun t => (t.acc, t.cnt)) = some (⟨0x1FE#32, 0#32, 0#32, 0xC#32⟩, 2#32) := by decide
theorem test_wadd_wraps : (nextOf (exec .wadd { idle16 with acc := ⟨0xFFFFFFFF#32, 0#32, 0#32, 0#32⟩, cnt := 0xFFFFFFFF#32, ch := ⟨1#8, 0#8, 0#8, 0#8⟩ })).map
    (fun t => (t.acc.a, t.cnt)) = some (0#32, 0#32) := by decide
-- V13, V19
theorem test_wsub : (nextOf (exec .wsub { idle16 with acc := ⟨0x2FD#32, 0#32, 0#32, 0x12#32⟩, cnt := 3#32, ch := ⟨0xFF#8, 0#8, 0#8, 9#8⟩ })).map
    (fun t => (t.acc, t.cnt)) = some (⟨0x1FE#32, 0#32, 0#32, 9#32⟩, 2#32) := by decide
theorem test_wsub_wraps : (nextOf (exec .wsub { idle16 with ch := ⟨0#8, 0#8, 0#8, 1#8⟩ })).map
    (fun t => (t.acc.b, t.cnt)) = some (0xFFFFFFFF#32, 0xFFFFFFFF#32) := by decide
-- V16, V17
theorem test_wdiv : (nextOf (exec .wdiv { idle16 with acc := ⟨2#32, 5#32, 8#32, 254#32⟩, cnt := 3#32 })).map (·.q)
    = some ⟨0#8, 1#8, 2#8, 84#8⟩ := by decide
theorem test_wdiv_zero : (nextOf (exec .wdiv idle16)).map (fun t => (t.status, t.upc)) = some (0x00000032#32, 0) := by decide
-- V20: the quotient is truncated to 8 bits
theorem test_wdiv_truncates : laneDiv 1#32 0x200#32 = 0#8 := by decide

/-! ### The step -/

-- V57, V59, V60, V61: illegal words
theorem test_step_illegal_zero : (nextOf (step { idle16 with moves := [.cmd 0x00000000#32] })).map (·.status) = some 0x00000022#32 := by decide
theorem test_step_illegal_ones : (nextOf (step { idle16 with moves := [.cmd 0xFFFFFFFF#32] })).map (·.status) = some 0x00000F22#32 := by decide
theorem test_step_illegal_rsv : (nextOf (step { idle16 with moves := [.cmd 0x10010005#32] })).map (fun t => (t.status, t.width)) = some (0x00000122#32, 0#16) := by decide
theorem test_step_illegal_apply : (nextOf (step { idle16 with moves := [.cmd 0x40000001#32] })).map (·.status) = some 0x00000422#32 := by decide
-- V63: the first fault is kept
theorem test_step_first_fault_kept : (nextOf (step { faulted16 with moves := [.cmd 0x00000000#32] })).map (·.status) = some 0x00000522#32 := by decide
-- P3: an accepted APPLY is BUSY at UPC 0 with 27 micro-ops, the first of them WCLR
theorem test_step_accepts_apply : (nextOf (step aboutToApply)).map (fun t => (t.busy, t.upc, t.stream.length, t.stream.head?))
    = some (true, 0, 27, some 0x5000000000#40) := by decide
-- V44: 83 micro-ops for 3 by 2, 77 under GT0
theorem test_stream_length : (uopsApply .ge0 3 2 1).length = 83 ∧ (uopsApply .gt0 3 2 1).length = 77 := by decide
-- withFetchWord: the very next step runs the word
theorem test_fetch_command : (nextOf (step (State.reset.withFetchWord 32 0x10000005))).map (·.width) = some 5#16 := by decide
theorem test_fetch_bundle : (nextOf (step (State.reset.withFetchWord 40 0x6000000000))).map (fun t => (t.cnt, t.busy)) = some (1#32, true) := by decide
theorem test_fetch_store : (nextOf (step (State.reset.withFetchWord 40 0x2100000006))).map (·.scr) = some [(6, 0#32)] := by decide
-- The last micro-op ends the APPLY (10_state R34), and SCR is unspecified again (R36, 20_memory R56)
theorem test_step_end_discards_scratch : (nextOf (step { finishing 0x2000000007#40 with scr := [(6, 5#32)] })).map
    (fun t => (t.buf, t.scr, t.scrDraw, t.busy)) = some ([(7, 0#32)], [], 1, false) := by decide
theorem test_step_fault_discards_scratch : (nextOf (step { running 0x8000000000#40 with scr := [(6, 5#32)] })).map
    (fun t => (t.scr, t.scrDraw, t.status)) = some ([], 1, 0x00000032#32) := by decide
theorem test_step_refuses_unassigned : step (running 0x9000000000#40) = .refused (.unassignedBundle 0x9000000000#40) := by rfl

/-! ### What a line and an image become (V24, V26, V40, V41), and ESTR (V30) -/

theorem test_line_ge0 : ((List.range 6).map (linePixel .ge0 6 1 (fun i => if i = 0 then 0xFF#32 else 0#32)))
    = [0x7F#32, 0x55#32, 0#32, 0#32, 0#32, 0#32] := by decide
theorem test_line_gt0 : ((List.range 6).map (linePixel .gt0 6 1 (fun i => if i = 0 then 0xFF#32 else 0#32)))
    = [0x7F#32, 0x55#32, 0x3F#32, 0x3F#32, 0x3F#32, 0x55#32] := by decide
theorem test_blur_center : blurredPixel .ge0 5 5 1 (fun y x => if y = 2 ∧ x = 2 then 0xFFFF0000#32 else 0xFF000000#32) 1 1
    = 0xFF1C0000#32 := by decide
theorem test_blur_gt0 : blurredPixel .gt0 5 5 1 (fun y x => if y = 2 ∧ x = 2 then 0xFFFF0000#32 else 0xFF000000#32) 2 2
    = 0xFF0F0000#32 := by decide
theorem test_estr_small : estr ⟨49, 20⟩ = 2 ∧ estr ⟨7, 2⟩ = 3 ∧ estr ⟨3, 1⟩ = 2 := by decide
theorem test_estr_below_threshold : estr ⟨7, 5⟩ = 1 ∧ estr ⟨50, 1⟩ = 49 := by decide
-- V64
theorem test_regRead_reserved : regRead { idle16 with width := 3#16 } 0xFFFFFFFF#32 = 0#32 := by decide
-- P4: the assembler
theorem test_assemble_setw : assembleLine estr ['S', 'E', 'T', 'W', ' ', '0', 'x', '1', 'F', ' ', ';', 'w'] = some [.setw 31#16] := by decide
theorem test_assemble_gblur : (assembleLine estr ['G', 'B', 'L', 'U', 'R', ' ', '2', '.', '5']).map commandWords
    = some [0x30000002#32, 0x40000000#32, 0x40000000#32, 0x40000000#32] := by decide
theorem test_assemble_ldp : assembleLine estr ['L', 'D', 'P', ' ', 'B', 'U', 'F', ',', ' ', '1', '2'] = some [.ldp .buf 12#32] := by decide
theorem test_assemble_refuses_large : assembleLine estr ['S', 'E', 'T', 'R', ' ', '6', '5', '5', '3', '6'] = none := by decide

/-! ### Witnesses: a concrete case for the hypotheses of every statement that has some -/

theorem test_hyps_EncodeOfDecodeIsTheWord : decode (.command 0x1000FFFF#32) = .instr (.setw 65535#16) ∧
    decode (.bundle 0x11FFFFFFFF#40) = .instr (.ldp .scr 4294967295#32) := by decide

theorem test_hyps_CommandWordRejectedExactlyWhenIllegal :
    IllegalWord 0x0FFFFFFF#32 ∧ IllegalWord 0x50000000#32 ∧ IllegalWord 0x10010000#32 ∧ IllegalWord 0x4000FFFF#32 ∧
    ¬IllegalWord 0x40000000#32 ∧ ¬IllegalWord 0x3000FFFF#32 := by decide

theorem ready_idle16 (ms : List HostMove) : Ready { idle16 with moves := ms } := by
  change statusBusy idle16.status = false ∧ statusFault idle16.status = false
  decide

theorem test_hyps_SetWordsAtTheCmdPort (n : BitVec 16) :
    (Ready { idle16 with moves := [.cmd (0x1000#16 ++ n)] } ∧
      NextCommand { idle16 with moves := [.cmd (0x1000#16 ++ n)] } (0x1000#16 ++ n) []) ∧
    (Ready { idle16 with moves := [.cmd (0x2000#16 ++ n)] } ∧
      NextCommand { idle16 with moves := [.cmd (0x2000#16 ++ n)] } (0x2000#16 ++ n) []) ∧
    (Ready { idle16 with moves := [.cmd (0x3000#16 ++ n)] } ∧
      NextCommand { idle16 with moves := [.cmd (0x3000#16 ++ n)] } (0x3000#16 ++ n) []) :=
  ⟨⟨ready_idle16 _, rfl⟩, ⟨ready_idle16 _, rfl⟩, ⟨ready_idle16 _, rfl⟩⟩

theorem test_hyps_CodecLanesAreIsolated : ∀ c : Channel, ∃ s t : State,
    exec .unpk s = .next t ∧ s.px.extractLsb' (channelShift c) 8 = s.px.extractLsb' (channelShift c) 8 ∧
    ∃ u, exec .pack s = .next u ∧ s.q.get c = s.q.get c :=
  fun _ => ⟨idle16, _, rfl, rfl, _, rfl, rfl⟩

theorem test_hyps_WdivTruncatesOrRaisesDivideByZero :
    idle16.cnt = 0#32 ∧ ({ idle16 with cnt := 1#32, acc := ⟨255#32, 256#32, 0#32, 1#32⟩ } : State).cnt ≠ 0#32 ∧
    255 / 1 < 256 := by decide

theorem test_hyps_LdpStpAtTheLastWord : (15#32).toNat < idle16.cfg.cap ∧ idle16.cfg.cap ≤ (16#32).toNat := by decide

theorem test_hyps_LoadAfterStore : ∃ t, exec (.stp .buf 15#32) idle16 = .next t ∧ (15#32).toNat < idle16.cfg.cap ∧
    (0#32).toNat < idle16.cfg.cap := ⟨_, rfl, by decide, by decide⟩

theorem test_hyps_UnassignedBundle : (running 0x9000000000#40).busy = true ∧ (running 0x9000000000#40).meanwhile = [] ∧
    fetchBundle (running 0x9000000000#40) = some 0x9000000000#40 ∧
    decodeBundle 0x9000000000#40 = .rejected (.unassignedMicroOp 9#4) := by decide

theorem test_hyps_SetCommandsWriteTheirRegister : idle16.faulted = false ∧ faulted16.faulted = true := by decide

theorem test_hyps_CommandIsExaminedInOrder :
    (faulted16.busy = false ∧ faulted16.faulted = true) ∧
    (idle16.busy = false ∧ idle16.faulted = false ∧ IllegalWord 0xFFFFFFFF#32 ∧ IllegalWord 0#32) ∧
    ¬IllegalWord 0x10000000#32 ∧ NextCommand { idle16 with moves := [.cmd 0#32] } 0#32 [] ∧
    NextCommand { faulted16 with moves := [.cmd 0x10000000#32] } 0x10000000#32 [] := by decide

theorem test_hyps_ApplyChecksInOrder :
    (Ready (sized 0 5 500) ∧ (sized 0 5 500).widthNat = 0) ∧ (Ready (sized 5 0 1) ∧ (sized 5 0 1).heightNat = 0) ∧
    (Ready (sized 1 1 0) ∧ 1 ≤ (sized 1 1 0).widthNat ∧ 1 ≤ (sized 1 1 0).heightNat ∧ (sized 1 1 0).radiusNat < 1) ∧
    (100 < (sized 1 1 101).radiusNat) ∧
    (Ready (sized 17 1 100) ∧ 1 ≤ (sized 17 1 100).radiusNat ∧ (sized 17 1 100).radiusNat ≤ 100 ∧
      (sized 17 1 100).cfg.cap < (sized 17 1 100).widthNat * (sized 17 1 100).heightNat) := by decide

theorem test_hyps_ParametersLegal : Ready (sized 4 4 1) ∧ ParametersLegal (sized 4 4 1) ∧ ParametersLegal (sized 1 1 100) := by decide

theorem test_hyps_StreamIndices : ParametersLegal (sized 2 2 1) ∧
    Instr.ldp .buf 3#32 ∈ uopsApply (sized 2 2 1).cfg.evict (sized 2 2 1).widthNat (sized 2 2 1).heightNat (sized 2 2 1).radiusNat := by
  decide

theorem test_hyps_LineStreamCost : 1 ≤ 1 ∧ 1 ≤ 100 ∧
    admittedIndices (uopsLine .gt0 .buf .scr 4 2 4 1) = [4#32, 6#32, 8#32, 10#32] := by decide

theorem test_hyps_EachPass : (1 ≤ 2 ∧ 1 ≤ 3 ∧ 2 * 3 ≤ 2 ^ 32) ∧ Instr.ldp .buf 5#32 ∈ uopsHpass .gt0 2 3 1 ∧
    Instr.ldp .scr 5#32 ∈ uopsVpass .gt0 2 3 1 := by decide

theorem test_hyps_Line : Space.buf ≠ Space.scr ∧ 1 ≤ 3 ∧ 1 ≤ 100 ∧ 100 ≤ 100 ∧ 5 < 6 ∧ 0 + (6 - 1) * 3 < idle16.cfg.cap := by decide

theorem test_hyps_Windows : (0 < 1 ∧ 0 ≤ 1) ∧ (5 < 6 ∧ 1 + 1 ≤ 5) ∧ (2 < 3 ∧ 3 ≤ 2 + 1) := by decide

theorem test_hyps_Channels : (∀ i < 3, channelOf .R ((fun _ => 0x00FF0000#32 : Nat → BitVec 32) i) = 255) ∧
    (∀ i < 3, channelOf .G ((fun _ => 0x00FF0000#32 : Nat → BitVec 32) i) = 0) := by decide

theorem test_hyps_Apply : Ready aboutToApply ∧ NextCommand aboutToApply 0x40000000#32 [] ∧ aboutToApply.meanwhile = [] ∧
    ParametersLegal aboutToApply := by decide

theorem test_hyps_ApplyResultDependsOnTheImageOnly :
    (Ready { aboutToApply with px := 1#32 } ∧ NextCommand { aboutToApply with px := 1#32 } 0x40000000#32 [] ∧
      ({ aboutToApply with px := 1#32 } : State).meanwhile = [] ∧ ParametersLegal { aboutToApply with px := 1#32 }) ∧
    (∀ i < aboutToApply.widthNat * aboutToApply.heightNat,
      ({ aboutToApply with px := 1#32 } : State).wordAt .buf i = aboutToApply.wordAt .buf i) :=
  ⟨by decide, fun _ _ => rfl⟩

theorem test_hyps_NoApplyDividesByZero : fetchBundle (running (bundleOf .wdiv)) = some (bundleOf .wdiv) ∧
    (running (bundleOf .wdiv)).busy = true := by decide

theorem test_hyps_Blur3 : Ready { aboutToApply with moves := (commandWords blur3).map HostMove.cmd ++ [] } ∧
    ParametersLegal { aboutToApply with moves := (commandWords blur3).map HostMove.cmd ++ [] } := by decide

theorem test_hyps_Blur3AfterAFault :
    Ready { sized 2 2 0 with moves := (commandWords blur3).map HostMove.cmd } ∧ 1 ≤ (sized 2 2 0).widthNat ∧
    1 ≤ (sized 2 2 0).heightNat ∧ (sized 2 2 0).radiusNat < 1 ∧
    (sized 5 5 1).cfg.cap < (sized 5 5 1).widthNat * (sized 5 5 1).heightNat := by decide

theorem test_hyps_FlatImages : ∀ y < 2, ∀ x < 3, (fun _ _ => 0x80402010#32 : Nat → Nat → BitVec 32) y x = 0x80402010#32 := by decide

theorem test_hyps_FaultStaysUntilReset : faulted16.busy = false ∧ faulted16.faulted = true ∧
    (nextOf (step { faulted16 with moves := [.pixWrite 15#32 1#32] })).isSome = true := by decide

theorem test_hyps_RegRead : idle16.status &&& ~~~statusMask = 0#32 ∧ 4 ≤ (4#32).toNat ∧ idle16.busy = false ∧
    (running 0#40).busy = true := by decide

theorem test_hyps_PixPort : idle16.busy = false ∧ (15#32).toNat < idle16.cfg.cap ∧ idle16.cfg.cap ≤ (16#32).toNat := by decide

theorem test_hyps_ResetEvent : idle16.busy = false ∧ ({ idle16 with moves := [.reset] } : State).moves = .reset :: [] ∧
    ({ running 0#40 with meanwhile := [.reset] } : State).busy = true := by decide

theorem test_hyps_FirstApplyAfterReset : 1#16 ≠ 0#16 ∧ 65535#16 ≠ 0#16 := by decide

theorem test_hyps_StepRunsTheDecodedMicroOp : ∃ t, (running 0x5000000000#40).busy = true ∧ (running 0x5000000000#40).meanwhile = [] ∧
    (running 0x5000000000#40).stream[(running 0x5000000000#40).upc]? = some 0x5000000000#40 ∧
    decodeBundle 0x5000000000#40 = .instr .wclr ∧ exec .wclr (running 0x5000000000#40) = .next t :=
  ⟨_, by decide, by decide, by decide, by decide, rfl⟩

theorem test_hyps_ScratchIsUnspecifiedWhenAnApplyEnds : ((finishing 0x2000000007#40).busy = true ∧
      (nextOf (step (finishing 0x2000000007#40))).map (·.busy) = some false) ∧
    ((running 0x8000000000#40).busy = true ∧ (nextOf (step (running 0x8000000000#40))).map (·.busy) = some false) ∧
    (nextOf (step { running 0x8000000000#40 with meanwhile := [.reset] })).map (·.busy) = some false := by decide

theorem test_hyps_HostWaitsForTheBlock : (running 0x5000000000#40).busy = true ∧ (running 0x5000000000#40).meanwhile = [] ∧
    (nextOf (step (running 0x5000000000#40))).isSome = true ∧ idle16.busy = false ∧ idle16.moves = [] := by decide

theorem test_hyps_StepsOfTheWholeMachine : (nextOf (step aboutToApply)).isSome = true ∧
    (nextOf (step (running 0x2000000007#40))).isSome = true := by decide

theorem test_hyps_InvariantKept : Inv idle16 ∧ (nextOf (step { idle16 with moves := [.cmd 0x10000005#32] })).isSome = true := by decide

theorem test_hyps_Estr : (Sigma.mk 5 2).Valid ∧ (Sigma.mk 5 2).le (Sigma.mk 1000 1) := by decide

/-- An evaluation of the estimator that 40 R113 allows: the least radius always. -/
def leastRadius : Estimator := { eval := fun _ => 1, range := by simp, mono := by simp }

theorem test_hyps_Gblur : (∃ flt : Estimator, leastRadius.eval = flt.eval) ∧ (Sigma.mk 5 2).Valid ∧ idle16.faulted = false :=
  ⟨⟨leastRadius, rfl⟩, by decide, by decide⟩

end Sys2Proof.Tests
end

