-- ==== Sys2Proof/Proofs/RegPort.lean ====
section
/-! PROOF. The REG port (10_state R40): what RegRead gives for each number, and the step that reads. -/

namespace Sys2Proof.Machine

/-! ### The value read -/

@[simp] theorem regRead_zero (s : State) : regRead s 0#32 = s.width.setWidth 32 := rfl

@[simp] theorem regRead_one (s : State) : regRead s 1#32 = s.height.setWidth 32 := rfl

@[simp] theorem regRead_two (s : State) : regRead s 2#32 = s.radius.setWidth 32 := rfl

@[simp] theorem regRead_three (s : State) : regRead s 3#32 = s.status &&& statusMask := rfl

/-- The numbers 0 to 3 are the registers; no other number names one. -/
theorem regRead_of_four_le (s : State) {n : BitVec 32} (hn : 4 ≤ n.toNat) : regRead s n = 0#32 := by
  have hne (k : Nat) (hk : k < 4) : n ≠ BitVec.ofNat 32 k := by
    rintro rfl
    rw [BitVec.toNat_ofNat] at hn
    omega
  rw [regRead, if_neg (hne 0 (by decide)), if_neg (hne 1 (by decide)), if_neg (hne 2 (by decide)),
    if_neg (hne 3 (by decide))]

/-- Masking the reserved bits (10_state R25) changes nothing where they are all 0: the mask and its complement split the
word in two, and the second part is 0. -/
theorem and_statusMask_of_reserved_zero {st : BitVec 32} (h : st &&& ~~~statusMask = 0#32) : st &&& statusMask = st :=
  calc st &&& statusMask
    _ = (st &&& statusMask) ||| (st &&& ~~~statusMask) := by rw [h, BitVec.or_zero]
    _ = st &&& (statusMask ||| ~~~statusMask) := BitVec.and_or_distrib_left.symm
    _ = st := by rw [(by decide : statusMask ||| ~~~statusMask = BitVec.allOnes 32), BitVec.and_allOnes]

/-! ### The step that reads -/

theorem step_of_idle {s : State} (h : s.busy = false) : step s = stepIdle s := by simp [step, h]

theorem step_of_busy {s : State} (h : s.busy = true) : step s = stepBusy s := by simp [step, h]

/-- While the block is idle, a RegRead at the head of the host's moves is taken. -/
theorem step_idle_regRead {s : State} {n : BitVec 32} {rest : List HostMove} (hb : s.busy = false)
    (hm : s.moves = .regRead n :: rest) : step s = .next (hostRegRead n { s with moves := rest }) :=
  (step_of_idle hb).trans (stepIdle_next.mpr (by simp [hm]))

/-- While an APPLY runs, a RegRead that reaches the block is answered before the next micro-op. -/
theorem step_busy_regRead {s : State} {n : BitVec 32} {rest : List BusyMove} (hb : s.busy = true)
    (hm : s.meanwhile = .regRead n :: rest) : step s = .next (hostRegRead n { s with meanwhile := rest }) :=
  (step_of_busy hb).trans (stepBusy_next.mpr (by simp [hm]))

/-- The value read does not depend on what either list of the host holds. -/
theorem hostRegRead_moves (s : State) (n : BitVec 32) (rest : List HostMove) :
    hostRegRead n { s with moves := rest } = { s with moves := rest, reply := some (regRead s n) } := rfl

theorem hostRegRead_meanwhile (s : State) (n : BitVec 32) (rest : List BusyMove) :
    hostRegRead n { s with meanwhile := rest } = { s with meanwhile := rest, reply := some (regRead s n) } := rfl

/-- Settles O45: each register by its number, then the read as a step of an idle and of a busy block. -/
theorem regReadGivesTheRegisters : Obligations.RegReadGivesTheRegisters := by
  intro s
  refine ⟨?width, ?height, ?radius, ?status, ?above, ?idle, ?busy⟩
  case width => rw [regRead_zero, BitVec.toNat_setWidth_of_le (by decide : 16 ≤ 32)]
  case height => rw [regRead_one, BitVec.toNat_setWidth_of_le (by decide : 16 ≤ 32)]
  case radius => rw [regRead_two, BitVec.toNat_setWidth_of_le (by decide : 16 ≤ 32)]
  case status =>
    intro hreserved
    rw [regRead_three, and_statusMask_of_reserved_zero hreserved]
  case above => exact fun n hn => regRead_of_four_le s hn
  case idle =>
    intro n rest hb hm
    rw [step_idle_regRead hb hm, hostRegRead_moves]
  case busy =>
    intro n rest hb hm
    rw [step_busy_regRead hb hm, hostRegRead_meanwhile]

end Sys2Proof.Machine
end

