-- ==== Sys2Proof/Proofs/Estimator.lean ====
section
/-! PROOF. The radius estimator (40_radius_estimator R110, R111, R115). Every statement turns on one equivalence,
`n ≤ estrRaw x ↔ n(n+1) ≤ sigma^2`: first in the model's integers, then in any ordered field. -/

namespace Sys2Proof.Machine

/-! ### The raw estimate in integers -/

theorem estrReaches_iff (x : Sigma) (n : Nat) :
    estrReaches x n = true ↔ n * (n + 1) * (x.den * x.den) ≤ x.num * x.num := by
  rw [estrReaches, decide_eq_true_iff]

@[simp] theorem estrReaches_zero (x : Sigma) : estrReaches x 0 = true :=
  (estrReaches_iff x 0).mpr (by simp)

theorem estrReaches_of_le {x : Sigma} {m n : Nat} (hmn : m ≤ n) (hn : estrReaches x n = true) :
    estrReaches x m = true := by
  rw [estrReaches_iff] at hn ⊢
  calc m * (m + 1) * (x.den * x.den)
    _ ≤ n * (n + 1) * (x.den * x.den) := by gcongr
    _ ≤ x.num * x.num := hn

/-- The numerator of sigma bounds the search: `n^2 ≤ n(n+1) ≤ sigma^2 ≤ num^2`. -/
theorem le_num_of_estrReaches {x : Sigma} (hx : x.Valid) {n : Nat} (hn : estrReaches x n = true) : n ≤ x.num := by
  rw [estrReaches_iff] at hn
  have hden : 1 ≤ x.den * x.den := Nat.mul_pos (Nat.pos_of_ne_zero hx) (Nat.pos_of_ne_zero hx)
  refine Nat.mul_self_le_mul_self_iff.mp ?_
  calc n * n
    _ ≤ n * (n + 1) * 1 := by rw [Nat.mul_one]; gcongr; exact n.le_succ
    _ ≤ n * (n + 1) * (x.den * x.den) := by gcongr
    _ ≤ x.num * x.num := hn

/-- The model's search is the library's search for the greatest number below a bound. -/
theorem estrRawUpTo_eq_findGreatest (x : Sigma) (b : Nat) :
    estrRawUpTo x b = Nat.findGreatest (estrReaches x · = true) b := by
  induction b with
  | zero => rfl
  | succ b ih => rw [estrRawUpTo, Nat.findGreatest_succ, ih]

theorem le_estrRaw_iff_estrReaches {x : Sigma} (hx : x.Valid) {n : Nat} :
    n ≤ estrRaw x ↔ estrReaches x n = true := by
  rw [estrRaw, estrRawUpTo_eq_findGreatest]
  constructor
  · intro hle
    exact estrReaches_of_le hle
      (@Nat.findGreatest_spec 0 (estrReaches x · = true) _ x.num x.num.zero_le (estrReaches_zero x))
  · intro hn
    exact Nat.le_findGreatest (le_num_of_estrReaches hx hn) hn

/-! ### The raw estimate in an ordered field -/

section OrderedField

variable (K : Type) [Field K] [LinearOrder K] [IsStrictOrderedRing K]

theorem den_cast_pos_of_valid {x : Sigma} (hx : x.Valid) : (0 : K) < x.den :=
  Nat.cast_pos.mpr (Nat.pos_of_ne_zero hx)

/-- 40 R111: `raw` is the largest `n` with `n(n+1) ≤ sigma^2`. -/
theorem le_estrRaw_iff {x : Sigma} (hx : x.Valid) {n : Nat} :
    n ≤ estrRaw x ↔ (n : K) * (n + 1) ≤ ((x.num : K) / x.den) ^ 2 := by
  have hden : (0 : K) < (x.den : K) ^ 2 := pow_pos (den_cast_pos_of_valid K hx) 2
  rw [le_estrRaw_iff_estrReaches hx, estrReaches_iff, div_pow, le_div_iff₀ hden, sq, sq]
  exact_mod_cast Iff.rfl

theorem sigma_le_iff_div_le_div {x y : Sigma} (hx : x.Valid) (hy : y.Valid) :
    x.le y ↔ (x.num : K) / x.den ≤ (y.num : K) / y.den := by
  rw [div_le_div_iff₀ (den_cast_pos_of_valid K hx) (den_cast_pos_of_valid K hy)]
  exact_mod_cast Iff.rfl

end OrderedField

/-! ### The formula over the reals -/

/-- The quadratic behind R110: `n(n+1) ≤ q` is `(2n+1)^2 ≤ 4q + 1`. -/
theorem le_quadratic_root_iff (n : Nat) (q : ℝ) :
    (n : ℝ) ≤ (Real.sqrt (12 * q / 3 + 1) - 1) / 2 ↔ (n : ℝ) * (n + 1) ≤ q :=
  calc (n : ℝ) ≤ (Real.sqrt (12 * q / 3 + 1) - 1) / 2
    _ ↔ 2 * (n : ℝ) + 1 ≤ Real.sqrt (12 * q / 3 + 1) := by constructor <;> intro h <;> linarith
    _ ↔ (2 * (n : ℝ) + 1) ^ 2 ≤ 12 * q / 3 + 1 := Real.le_sqrt' (by positivity)
    _ ↔ (n : ℝ) * (n + 1) ≤ q := by constructor <;> intro h <;> linarith

/-- The floor of the root is the largest `n` with `n(n+1) ≤ q`. -/
theorem floor_quadratic_root_eq {r : Nat} {q : ℝ} (hr : ∀ n : Nat, n ≤ r ↔ (n : ℝ) * (n + 1) ≤ q) :
    ⌊(Real.sqrt (12 * q / 3 + 1) - 1) / 2⌋ = (r : Int) := by
  simp only [← le_quadratic_root_iff] at hr
  refine Int.floor_eq_iff.mpr ⟨?lower, ?upper⟩
  case lower => exact_mod_cast (hr r).mp le_rfl
  case upper =>
    have hnext := (hr (r + 1)).not.mp r.not_succ_le_self
    exact_mod_cast not_le.mp hnext

/-- Settles O57: the floor is `raw`, and the clamps are the model's. -/
theorem estrIsTheRealFormula : Obligations.EstrIsTheRealFormula := by
  intro x hx
  rw [floor_quadratic_root_eq fun n => le_estrRaw_iff _ hx, estr]
  push_cast
  rfl

/-! ### The thresholds -/

theorem estr_eq_one_of_raw_lt {x : Sigma} (h : estrRaw x < 2) : estr x = 1 := by
  rw [estr]; omega

theorem estr_eq_raw {x : Sigma} (hlow : 1 ≤ estrRaw x) (hhigh : estrRaw x ≤ 100) : estr x = estrRaw x := by
  rw [estr]; omega

theorem estr_eq_hundred_of_le_raw {x : Sigma} (h : 100 ≤ estrRaw x) : estr x = 100 := by
  rw [estr]; omega

theorem estr_eq_hundred_of_le_sq {x : Sigma} (hx : x.Valid) (h : 10100 ≤ ((x.num : ℚ) / x.den) ^ 2) :
    estr x = 100 :=
  estr_eq_hundred_of_le_raw ((le_estrRaw_iff ℚ hx).mpr (by norm_num [h]))

/-- Settles O58: each threshold of sigma squared is a bound of `raw`. -/
theorem estrByThresholds : Obligations.EstrByThresholds := by
  intro x hx
  have hraw (n : Nat) : n ≤ estrRaw x ↔ (n : ℚ) * (n + 1) ≤ ((x.num : ℚ) / x.den) ^ 2 := le_estrRaw_iff _ hx
  refine ⟨fun n => (hraw n).symm, ?least, ?between, estr_eq_hundred_of_le_sq hx⟩
  case least =>
    intro hsq
    have hlt : ¬ 2 ≤ estrRaw x := (hraw 2).not.mpr (by norm_num [hsq])
    exact estr_eq_one_of_raw_lt (not_le.mp hlt)
  case between =>
    intro k hk2 hk99 hlow hhigh
    have hle : k ≤ estrRaw x := (hraw k).mpr hlow
    have hlt : ¬ k + 1 ≤ estrRaw x := (hraw (k + 1)).not.mpr (by push_cast; linarith)
    have hk : estrRaw x = k := by omega
    rw [estr_eq_raw (by omega) (by omega), hk]

/-! ### Monotone and bounded -/

theorem estrRaw_mono {x y : Sigma} (hx : x.Valid) (hy : y.Valid) (hxy : x.le y) : estrRaw x ≤ estrRaw y := by
  rw [le_estrRaw_iff ℚ hy]
  calc (estrRaw x : ℚ) * (estrRaw x + 1)
    _ ≤ ((x.num : ℚ) / x.den) ^ 2 := (le_estrRaw_iff _ hx).mp le_rfl
    _ ≤ ((y.num : ℚ) / y.den) ^ 2 := by gcongr ?_ ^ 2; exact (sigma_le_iff_div_le_div ℚ hx hy).mp hxy

theorem estr_mono {x y : Sigma} (hx : x.Valid) (hy : y.Valid) (hxy : x.le y) : estr x ≤ estr y :=
  min_le_min_right 100 (max_le_max_right 1 (estrRaw_mono hx hy hxy))

theorem one_le_estr (x : Sigma) : 1 ≤ estr x := le_min (le_max_right _ 1) (by decide)

theorem estr_le_hundred (x : Sigma) : estr x ≤ 100 := min_le_right _ 100

/-- Settles O59: `raw` is monotone and the clamps keep that; 1000 lies beyond the last threshold. -/
theorem estrIsMonotoneAndBounded : Obligations.EstrIsMonotoneAndBounded := by
  refine ⟨fun x y => estr_mono, fun x _ => ⟨one_le_estr x, estr_le_hundred x⟩, ?zero, ?thousand⟩
  case zero => decide
  case thousand => exact estr_eq_hundred_of_le_sq one_ne_zero (by norm_num)

end Sys2Proof.Machine
end

/-! PROOF. The pixel codec (41_pixel_codec R120 to R123): each channel of a pixel word is one field of eight bits, unpack
reads the four fields, and pack puts a value in each. -/

namespace Sys2Proof.Machine

/-! ### UNPK and PACK as next states -/

theorem exec_unpk_next {s t : State} : exec .unpk s = .next t ↔ t = (s.withCh (unpack s.px)).advance := execUnpk_next

theorem exec_pack_next {s t : State} : exec .pack s = .next t ↔ t = (s.withPx (pack s.q)).advance := execPack_next

/-! ### Channel by channel -/

theorem Lanes.ext_get {w : Nat} {l k : Lanes w} (h : ∀ c, l.get c = k.get c) : l = k :=
  Lanes.ext (h .A) (h .R) (h .G) (h .B)

/-- Each channel that unpack gives is the field at the channel's position. -/
theorem get_unpack (w : BitVec 32) (c : Channel) : (unpack w).get c = w.extractLsb' (channelShift c) 8 := by
  cases c <;> rfl

/-- The field at a channel's position of what pack gives is that channel: the fields below it are skipped, those above it
are not reached. -/
theorem extractLsb'_pack (l : Lanes 8) (c : Channel) : (pack l).extractLsb' (channelShift c) 8 = l.get c := by
  rw [pack]
  cases c with
  | A =>
    calc (l.a ++ l.r ++ l.g ++ l.b).extractLsb' 24 8
      _ = (l.a ++ l.r ++ l.g).extractLsb' 16 8 := BitVec.extractLsb'_append_eq_of_le (by decide)
      _ = (l.a ++ l.r).extractLsb' 8 8 := BitVec.extractLsb'_append_eq_of_le (by decide)
      _ = l.a := BitVec.extractLsb'_append_eq_left
  | R =>
    calc (l.a ++ l.r ++ l.g ++ l.b).extractLsb' 16 8
      _ = (l.a ++ l.r ++ l.g).extractLsb' 8 8 := BitVec.extractLsb'_append_eq_of_le (by decide)
      _ = (l.a ++ l.r).extractLsb' 0 8 := BitVec.extractLsb'_append_eq_of_le (by decide)
      _ = l.r := BitVec.extractLsb'_append_eq_right
  | G =>
    calc (l.a ++ l.r ++ l.g ++ l.b).extractLsb' 8 8
      _ = (l.a ++ l.r ++ l.g).extractLsb' 0 8 := BitVec.extractLsb'_append_eq_of_le (by decide)
      _ = l.g := BitVec.extractLsb'_append_eq_right
  | B => exact BitVec.extractLsb'_append_eq_right

/-! ### The two are inverse -/

theorem unpack_pack (l : Lanes 8) : unpack (pack l) = l :=
  Lanes.ext_get fun c => by rw [get_unpack, extractLsb'_pack]

/-- The four fields lie side by side, so they join to the whole word again. -/
theorem pack_unpack (w : BitVec 32) : pack (unpack w) = w := by
  have join {hi lo n : Nat} (h : hi = lo + 8) :
      w.extractLsb' hi n ++ w.extractLsb' lo 8 = w.extractLsb' lo (n + 8) :=
    BitVec.extractLsb'_append_extractLsb'_eq_extractLsb' h
  calc pack (unpack w)
    _ = w.extractLsb' 24 8 ++ w.extractLsb' 16 8 ++ w.extractLsb' 8 8 ++ w.extractLsb' 0 8 := rfl
    _ = w.extractLsb' 0 (8 + 8 + 8 + 8) := by rw [join rfl, join rfl, join rfl]
    _ = w := BitVec.extractLsb'_eq_self

/-- Settles O6: the two round trips, and the value each micro-op writes. -/
theorem unpackAndPackAreInverse : Obligations.UnpackAndPackAreInverse :=
  ⟨pack_unpack, unpack_pack, fun _ => ⟨_, exec_unpk_next.mpr rfl, rfl⟩, fun _ => ⟨_, exec_pack_next.mpr rfl, rfl⟩⟩

/-- Settles O9: UNPK writes the field of PX to the channel, and PACK the channel of Q to the field. -/
theorem codecLanesAreIsolated : Obligations.CodecLanesAreIsolated := by
  intro c
  constructor
  case left =>
    intro s s' t t' ht ht' hpx
    obtain rfl := exec_unpk_next.mp ht
    obtain rfl := exec_unpk_next.mp ht'
    simpa [get_unpack] using hpx
  case right =>
    intro s s' t t' ht ht' hq
    obtain rfl := exec_pack_next.mp ht
    obtain rfl := exec_pack_next.mp ht'
    simpa [extractLsb'_pack] using hq

/-! ### The fields as numbers -/

/-- A channel is the word divided by the weight of its lowest bit, modulo 2^8. -/
theorem toNat_get_unpack (w : BitVec 32) (c : Channel) :
    ((unpack w).get c).toNat = w.toNat / 2 ^ channelShift c % 2 ^ 8 := by
  rw [get_unpack, BitVec.extractLsb'_toNat, Nat.shiftRight_eq_div_pow]

theorem toNat_append_eq_add {m n : Nat} (x : BitVec m) (y : BitVec n) :
    (x ++ y).toNat = x.toNat * 2 ^ n + y.toNat := by
  rw [BitVec.toNat_append, ← Nat.shiftLeft_add_eq_or_of_lt y.isLt, Nat.shiftLeft_eq]

theorem toNat_pack (l : Lanes 8) :
    (pack l).toNat = l.a.toNat * 2 ^ 24 + l.r.toNat * 2 ^ 16 + l.g.toNat * 2 ^ 8 + l.b.toNat := by
  simp only [pack, toNat_append_eq_add]
  ring

/-- Settles O7: a field is a quotient and a remainder of PX; the top one needs no remainder, the lowest no quotient. -/
theorem unpkWritesTheChannelLatches : Obligations.UnpkWritesTheChannelLatches := by
  intro s
  have hfield := toNat_get_unpack s.px
  have htop : s.px.toNat / 2 ^ 24 % 2 ^ 8 = s.px.toNat / 2 ^ 24 :=
    Nat.mod_eq_of_lt (Nat.div_lt_of_lt_mul s.px.isLt)
  have hlow : s.px.toNat / 2 ^ 0 % 2 ^ 8 = s.px.toNat % 2 ^ 8 := by rw [pow_zero, Nat.div_one]
  exact ⟨_, exec_unpk_next.mpr rfl, (hfield .A).trans htop, hfield .R, hfield .G, (hfield .B).trans hlow, rfl⟩

/-- Settles O8: the joined bytes are the weighted sum. -/
theorem packWritesThePixelLatch : Obligations.PackWritesThePixelLatch :=
  fun s => ⟨_, exec_pack_next.mpr rfl, toNat_pack s.q, rfl⟩

end Sys2Proof.Machine

/-! PROOF. The accumulator pipeline (42_accumulator R130 to R133): one rule for each lane's arithmetic and one for each
micro-op's next state; the statements read the lanes off those. -/

namespace Sys2Proof.Machine

/-! ### Lane by lane -/

@[simp] theorem Lanes.get_map {w v : Nat} (f : BitVec w → BitVec v) (l : Lanes w) (c : Channel) :
    (l.map f).get c = f (l.get c) := by
  cases c <;> rfl

@[simp] theorem Lanes.get_zip {w v u : Nat} (f : BitVec w → BitVec v → BitVec u) (l : Lanes w) (k : Lanes v)
    (c : Channel) : (l.zip f k).get c = f (l.get c) (k.get c) := by
  cases c <;> rfl

/-! ### One lane as numbers -/

theorem toNat_laneAdd (a : BitVec 32) (c : BitVec 8) : (laneAdd a c).toNat = (a.toNat + c.toNat) % 2 ^ 32 := by
  rw [laneAdd, BitVec.toNat_add, BitVec.toNat_setWidth_of_le (by decide : 8 ≤ 32)]

/-- A word's difference is the integers' difference with its non-negative remainder. -/
theorem toNat_sub_eq_emod (x y : BitVec 32) : ((x - y).toNat : Int) = ((x.toNat : Int) - y.toNat) % 2 ^ 32 := by
  have hx := x.isLt
  have hy := y.isLt
  rw [BitVec.toNat_sub]
  omega

theorem toNat_laneSub (a : BitVec 32) (c : BitVec 8) :
    ((laneSub a c).toNat : Int) = ((a.toNat : Int) - c.toNat) % 2 ^ 32 := by
  rw [laneSub, toNat_sub_eq_emod, BitVec.toNat_setWidth_of_le (by decide : 8 ≤ 32)]

theorem toNat_laneDiv (n a : BitVec 32) : (laneDiv n a).toNat = a.toNat / n.toNat % 2 ^ 8 := by
  rw [laneDiv, BitVec.extractLsb'_toNat, Nat.shiftRight_zero, BitVec.toNat_udiv]

/-- 42 R133, R138: a quotient below 256 fits its lane whole. -/
theorem toNat_laneDiv_of_lt {n a : BitVec 32} (h : a.toNat / n.toNat < 256) :
    (laneDiv n a).toNat = a.toNat / n.toNat :=
  (toNat_laneDiv n a).trans (Nat.mod_eq_of_lt h)

/-- 42 R133: division truncates toward zero. -/
theorem laneDiv_bounds {n a : BitVec 32} (hn : n ≠ 0#32) (h : a.toNat / n.toNat < 256) :
    (laneDiv n a).toNat * n.toNat ≤ a.toNat ∧ a.toNat < ((laneDiv n a).toNat + 1) * n.toNat := by
  have hpos : 0 < n.toNat := Nat.pos_of_ne_zero fun h0 => hn (BitVec.eq_of_toNat_eq h0)
  rw [toNat_laneDiv_of_lt h]
  exact ⟨Nat.div_mul_le_self _ _, (Nat.div_lt_iff_lt_mul hpos).mp (Nat.lt_succ_self _)⟩

/-! ### The four micro-ops as next states -/

theorem exec_wclr_next {s t : State} :
    exec .wclr s = .next t ↔ t = (s.withWindow (Lanes.splat 0#32) 0#32).advance := execWclr_next

theorem exec_wadd_next {s t : State} :
    exec .wadd s = .next t ↔ t = (s.withWindow (s.acc.zip laneAdd s.ch) (s.cnt + 1#32)).advance := execWadd_next

theorem exec_wsub_next {s t : State} :
    exec .wsub s = .next t ↔ t = (s.withWindow (s.acc.zip laneSub s.ch) (s.cnt - 1#32)).advance := execWsub_next

theorem exec_wdiv_of_cnt_zero {s t : State} (h : s.cnt = 0#32) :
    exec .wdiv s = .next t ↔ t = raise .divideByZero 0#4 s :=
  execWdiv_next.trans (by simp [h])

theorem exec_wdiv_of_cnt_ne_zero {s t : State} (h : s.cnt ≠ 0#32) :
    exec .wdiv s = .next t ↔ t = (s.withQ (s.acc.map (laneDiv s.cnt))).advance :=
  execWdiv_next.trans (by simp [h])

/-! ### The obligations -/

/-- Settles O13: CNT decides between the fault, whose only write is STATUS, and the truncating quotient of each lane. -/
theorem wdivTruncatesOrRaisesDivideByZero : Obligations.WdivTruncatesOrRaisesDivideByZero := by
  intro s
  constructor
  case left =>
    intro hcnt
    exact ⟨_, (exec_wdiv_of_cnt_zero hcnt).mpr rfl, raise_faulted .., raise_cause .., raise_info .., raise_busy .., rfl⟩
  case right =>
    intro hcnt
    refine ⟨_, (exec_wdiv_of_cnt_ne_zero hcnt).mpr rfl, ?quotient, ?inequalities, rfl⟩
    case quotient =>
      intro c
      simp [toNat_laneDiv]
    case inequalities =>
      intro c hlt
      simpa using laneDiv_bounds hcnt hlt

/-- Settles O10: the cleared window, and the head of the LINE's stream. -/
theorem wclrEmptiesTheWindow : Obligations.WclrEmptiesTheWindow :=
  ⟨fun _ => exec_wclr_next.mpr rfl, fun _ _ _ _ _ _ _ => rfl⟩

/-- Settles O11: each lane adds its own channel, and the count adds 1. -/
theorem waddAdmitsTheUnpackedPixel : Obligations.WaddAdmitsTheUnpackedPixel := by
  intro s
  refine ⟨_, exec_wadd_next.mpr rfl, ?sums, ?count, rfl⟩
  case sums =>
    intro c
    simp [toNat_laneAdd]
  case count => exact BitVec.toNat_add s.cnt 1#32

/-- Settles O12: each lane subtracts its own channel, and the count subtracts 1. -/
theorem wsubEvictsTheUnpackedPixel : Obligations.WsubEvictsTheUnpackedPixel := by
  intro s
  refine ⟨_, exec_wsub_next.mpr rfl, ?sums, ?count, rfl⟩
  case sums =>
    intro c
    simp [toNat_laneSub]
  case count => exact toNat_sub_eq_emod s.cnt 1#32

end Sys2Proof.Machine

/-! PROOF. Pixel loads and stores (43_pixel_access R150, R151): each micro-op as a next state, read off the one load and the
one store of memory; an index below CAP always names a word. -/

namespace Sys2Proof.Machine

/-! ### The words an instance holds -/

/-- 20_memory R51: an index names a word exactly when it is below CAP. -/
theorem holds_iff_lt_cap {c : Config} {i : BitVec 32} : c.holds i = true ↔ i.toNat < c.cap := decide_eq_true_iff

/-! ### LDP and STP as next states -/

theorem exec_ldp_next {m : Space} {i : BitVec 32} {s t : State} :
    exec (.ldp m i) s = .next t ↔ i.toNat < s.cfg.cap ∧ t = (s.withPx (s.wordAt m i.toNat)).advance :=
  execLdp_next.trans (and_congr_left' holds_iff_lt_cap)

theorem exec_stp_next {m : Space} {i : BitVec 32} {s t : State} :
    exec (.stp m i) s = .next t ↔ i.toNat < s.cfg.cap ∧ t = s.advance.putWord m i.toNat s.px :=
  execStp_next.trans (and_congr_left' holds_iff_lt_cap)

/-! ### What the store leaves unchanged -/

/-- UPC is no part of memory: advancing it changes no word. -/
@[simp] theorem State.wordAt_advance (s : State) (m : Space) (i : Nat) : s.advance.wordAt m i = s.wordAt m i :=
  State.wordAt_congr s.advance_buf s.advance_scr s.advance_bufDraw s.advance_scrDraw m i

/-- A store of one word writes the two lists of words only. -/
theorem State.putWord_eq_with_spaces (s : State) (m : Space) (i : Nat) (v : BitVec 32) :
    s.putWord m i v = { s with buf := (s.putWord m i v).buf, scr := (s.putWord m i v).scr } := by
  cases m <;> rfl

/-! ### The obligations -/

/-- Settles O15: the store after UPC has advanced reads as PX at its own word and as before at every other. -/
theorem stpStoresThePixelLatch : Obligations.StpStoresThePixelLatch := by
  intro m i s hcap
  refine ⟨_, exec_stp_next.mpr ⟨hcap, rfl⟩, ?stored, ?others, ?registers⟩
  case stored => exact State.wordAt_putWord_same ..
  case others =>
    intro m' i' hother
    rw [State.wordAt_putWord_other _ _ hother, State.wordAt_advance]
  case registers => exact State.putWord_eq_with_spaces ..

/-- Settles O14: an index below CAP names a word, and the load writes it to PX. -/
theorem ldpLoadsThePixelLatch : Obligations.LdpLoadsThePixelLatch :=
  fun _ _ _ hcap => exec_ldp_next.mpr ⟨hcap, rfl⟩

end Sys2Proof.Machine

/-! PROOF. The window of a position and its truncated average (44_line_filter R161, R162, R165, R176 to R178). The window
under GT0 is the window under GE0 with position 0 in front where its reach has passed it; what the average does follows from
the window's members and its length alone. -/

namespace Sys2Proof.Machine

/-! ### The positions of a window -/

/-- The window under GE0 is one run of consecutive positions. -/
theorem window_ge0_eq_range' (n r p : Nat) :
    window .ge0 n r p = List.range' (windowLo r p) (windowHi n r p + 1 - windowLo r p) :=
  (List.range'_eq_map_range ..).symm

/-- 44 R165: while position 0 is within reach the two modes have one window. -/
theorem window_gt0_of_le {n r p : Nat} (h : p ≤ r) : window .gt0 n r p = window .ge0 n r p :=
  if_neg (by simp [windowLo, h])

/-- 44 R165: beyond its reach, position 0 stays in the window under GT0. -/
theorem window_gt0_of_lt {n r p : Nat} (h : r < p) : window .gt0 n r p = 0 :: window .ge0 n r p :=
  if_pos (Nat.sub_pos_of_lt h)

theorem windowCount_gt0_of_le {n r p : Nat} (h : p ≤ r) : windowCount .gt0 n r p = windowCount .ge0 n r p :=
  if_neg (by simp [windowLo, h])

theorem windowCount_gt0_of_lt {n r p : Nat} (h : r < p) : windowCount .gt0 n r p = windowCount .ge0 n r p + 1 :=
  if_pos (Nat.sub_pos_of_lt h)

theorem mem_window_ge0 {n r p i : Nat} (hp : p < n) : i ∈ window .ge0 n r p ↔ i < n ∧ i ≤ p + r ∧ p ≤ i + r := by
  rw [window_ge0_eq_range', List.mem_range'_1, windowLo, windowHi]
  omega

theorem zero_notMem_window_ge0 {n r p : Nat} (hp : p < n) (h : r < p) : 0 ∉ window .ge0 n r p := by
  rw [mem_window_ge0 hp]
  omega

theorem mem_window_gt0 {n r p i : Nat} (hp : p < n) : i ∈ window .gt0 n r p ↔ i = 0 ∨ i ∈ window .ge0 n r p := by
  rcases Nat.lt_or_ge r p with h | h
  · rw [window_gt0_of_lt h, List.mem_cons]
  · rw [window_gt0_of_le h, mem_window_ge0 hp]
    omega

theorem window_nodup (e : Evict) {n r p : Nat} (hp : p < n) : (window e n r p).Nodup := by
  have hge0 : (window .ge0 n r p).Nodup := by
    rw [window_ge0_eq_range']
    exact List.nodup_range'
  cases e with
  | ge0 => exact hge0
  | gt0 =>
    rcases Nat.lt_or_ge r p with h | h
    · rw [window_gt0_of_lt h]
      exact hge0.cons (zero_notMem_window_ge0 hp h)
    · rwa [window_gt0_of_le h]

/-- The number the rules divide by is the number of positions in the window. -/
theorem length_window (e : Evict) {n r p : Nat} (hp : p < n) : (window e n r p).length = windowCount e n r p := by
  have hge0 : (window .ge0 n r p).length = windowCount .ge0 n r p := by
    rw [window_ge0_eq_range', List.length_range', windowCount, windowLo, windowHi]
    omega
  cases e with
  | ge0 => exact hge0
  | gt0 =>
    rcases Nat.lt_or_ge r p with h | h
    · rw [window_gt0_of_lt h, windowCount_gt0_of_lt h, List.length_cons, hge0]
    · rw [window_gt0_of_le h, windowCount_gt0_of_le h, hge0]

/-- 44 R169: the position emitted is in its window. -/
theorem self_mem_window (e : Evict) {n r p : Nat} (hp : p < n) : p ∈ window e n r p := by
  have hge0 : p ∈ window .ge0 n r p := (mem_window_ge0 hp).mpr (by omega)
  cases e with
  | ge0 => exact hge0
  | gt0 => exact (mem_window_gt0 hp).mpr (.inr hge0)

theorem lt_of_mem_window {e : Evict} {n r p i : Nat} (hp : p < n) (hi : i ∈ window e n r p) : i < n := by
  cases e with
  | ge0 => exact ((mem_window_ge0 hp).mp hi).1
  | gt0 =>
    rcases (mem_window_gt0 hp).mp hi with rfl | hi
    · omega
    · exact ((mem_window_ge0 hp).mp hi).1

/-! ### The size of a window -/

theorem windowCount_pos (e : Evict) {n r p : Nat} (hp : p < n) : 0 < windowCount e n r p :=
  length_window e hp ▸ List.length_pos_of_mem (self_mem_window e hp)

theorem le_windowCount_ge0 {n r p : Nat} (hp : p < n) : min n (r + 1) ≤ windowCount .ge0 n r p := by
  rw [windowCount, windowLo, windowHi]
  omega

theorem windowCount_ge0_le {n r p : Nat} (hp : p < n) : windowCount .ge0 n r p ≤ min n (2 * r + 1) := by
  rw [windowCount, windowLo, windowHi]
  omega

/-- 44 R165: beyond the reach of position 0 the window under GE0 has not all of the line, so one more still fits. -/
theorem windowCount_le (e : Evict) {n r p : Nat} (hp : p < n) : windowCount e n r p ≤ min n (2 * r + 2) := by
  have hge0 : windowCount .ge0 n r p ≤ min n (2 * r + 1) := windowCount_ge0_le hp
  cases e with
  | ge0 => omega
  | gt0 =>
    rcases Nat.lt_or_ge r p with h | h
    · have hroom : windowCount .ge0 n r p < n := by
        rw [windowCount, windowLo, windowHi]
        omega
      rw [windowCount_gt0_of_lt h]
      omega
    · rw [windowCount_gt0_of_le h]
      omega

/-! ### Sums and averages over a window -/

section Average

variable {e : Evict} {n r p : Nat} {f g : Nat → Nat}

/-- A sum over a window depends on the values at its positions only. -/
theorem windowSum_congr (h : ∀ i ∈ window e n r p, f i = g i) : windowSum e n r f p = windowSum e n r g p :=
  congrArg List.sum (List.map_congr_left h)

theorem windowSum_const (v : Nat) (hp : p < n) : windowSum e n r (fun _ => v) p = v * windowCount e n r p := by
  rw [windowSum, List.map_const', List.sum_replicate, length_window e hp, smul_eq_mul, Nat.mul_comm]

theorem windowSum_le {b : Nat} (hp : p < n) (h : ∀ i ∈ window e n r p, f i ≤ b) :
    windowSum e n r f p ≤ b * windowCount e n r p :=
  windowSum_const b hp ▸ List.sum_le_sum h

theorem le_windowSum {b : Nat} (hp : p < n) (h : ∀ i ∈ window e n r p, b ≤ f i) :
    b * windowCount e n r p ≤ windowSum e n r f p :=
  windowSum_const b hp ▸ List.sum_le_sum h

theorem lineAverage_congr (h : ∀ i ∈ window e n r p, f i = g i) : lineAverage e n r f p = lineAverage e n r g p := by
  rw [lineAverage, lineAverage, windowSum_congr h]

/-- Two modes with one window and one count have one average. -/
theorem lineAverage_congr_mode {e' : Evict} (hw : window e n r p = window e' n r p)
    (hc : windowCount e n r p = windowCount e' n r p) (f : Nat → Nat) :
    lineAverage e n r f p = lineAverage e' n r f p := by
  rw [lineAverage, lineAverage, windowSum, windowSum, hw, hc]

theorem lineAverage_le {b : Nat} (hp : p < n) (h : ∀ i ∈ window e n r p, f i ≤ b) : lineAverage e n r f p ≤ b :=
  Nat.div_le_of_le_mul (Nat.mul_comm b _ ▸ windowSum_le hp h)

theorem le_lineAverage {b : Nat} (hp : p < n) (h : ∀ i ∈ window e n r p, b ≤ f i) : b ≤ lineAverage e n r f p :=
  (Nat.le_div_iff_mul_le (windowCount_pos e hp)).mpr (le_windowSum hp h)

end Average

/-! ### The channels of an output -/

theorem channelOf_le (c : Channel) (w : BitVec 32) : channelOf c w ≤ 255 := Nat.le_of_lt_succ (BitVec.isLt _)

/-- Each lane of an output is the average of its channel, cut to the lane's width. -/
theorem get_unpack_linePixel (e : Evict) (n r : Nat) (src : Nat → BitVec 32) (p : Nat) (c : Channel) :
    (unpack (linePixel e n r src p)).get c =
      BitVec.ofNat 8 (lineAverage e n r (fun i => channelOf c (src i)) p) := by
  rw [linePixel, unpack_pack]
  cases c <;> rfl

/-- An average of channels fits its lane: nothing is cut off. -/
theorem channelOf_linePixel (e : Evict) {n r p : Nat} (src : Nat → BitVec 32) (c : Channel) (hp : p < n) :
    channelOf c (linePixel e n r src p) = lineAverage e n r (fun i => channelOf c (src i)) p := by
  have hfit : lineAverage e n r (fun i => channelOf c (src i)) p ≤ 255 :=
    lineAverage_le hp fun i _ => channelOf_le c (src i)
  rw [channelOf, get_unpack_linePixel, BitVec.toNat_ofNat, Nat.mod_eq_of_lt (Nat.lt_succ_of_le hfit)]

theorem linePixel_congr_mode {e e' : Evict} {n r p : Nat} (hw : window e n r p = window e' n r p)
    (hc : windowCount e n r p = windowCount e' n r p) (src : Nat → BitVec 32) :
    linePixel e n r src p = linePixel e' n r src p := by
  simp only [linePixel, lineAverage_congr_mode hw hc]

/-! ### The obligations -/

/-- Settles O28: the run from lo to hi, whose length is the count. -/
theorem windowUnderGe0 : Obligations.WindowUnderGe0 := by
  intro n r p hp
  refine ⟨?members, window_nodup .ge0 hp, length_window .ge0 hp, self_mem_window .ge0 hp, le_windowCount_ge0 hp,
    windowCount_ge0_le hp⟩
  case members =>
    intro i
    rw [mem_window_ge0 hp]
    omega

/-- Settles O29: position 0 within reach, position 0 passed, and what holds of both. -/
theorem windowUnderGt0 : Obligations.WindowUnderGt0 := by
  intro n r p hp
  refine ⟨?within, ?beyond, window_nodup .gt0 hp, length_window .gt0 hp, windowCount_le .gt0 hp, ?tests, ?short⟩
  case within =>
    intro h
    exact ⟨window_gt0_of_le h, windowCount_gt0_of_le h⟩
  case beyond =>
    intro h
    exact ⟨fun _ => mem_window_gt0 hp, zero_notMem_window_ge0 hp h, windowCount_gt0_of_lt h⟩
  case tests =>
    rw [evictable, evictable, ne_eq, decide_eq_decide]
    omega
  case short =>
    intro hn
    have hpr : p ≤ r := by omega
    exact ⟨window_gt0_of_le hpr, linePixel_congr_mode (window_gt0_of_le hpr) (windowCount_gt0_of_le hpr)⟩

/-- Settles O32: the sum is `v` once for each position, and dividing by their number gives `v` back exactly. -/
theorem constantLinesAreFixed : Obligations.ConstantLinesAreFixed := by
  intro e n r p src c v hp hv
  have hsum : windowSum e n r (fun i => channelOf c (src i)) p = v * windowCount e n r p := by
    rw [windowSum_congr fun i hi => hv i (lt_of_mem_window hp hi), windowSum_const v hp]
  refine ⟨hsum, ?output⟩
  case output =>
    rw [channelOf_linePixel e src c hp, lineAverage, hsum, Nat.mul_div_cancel _ (windowCount_pos e hp)]

/-- Settles O33: the average reads its own channel inside the line only; 0 and 255 are constant lines. -/
theorem channelsDoNotMix : Obligations.ChannelsDoNotMix := by
  intro e n r p src src' c hp
  refine ⟨?agree, fun h0 => (constantLinesAreFixed e n r p src c 0 hp h0).2,
    fun h255 => (constantLinesAreFixed e n r p src c 255 hp h255).2⟩
  case agree =>
    intro hagree
    rw [channelOf_linePixel e src c hp, channelOf_linePixel e src' c hp]
    exact lineAverage_congr fun i hi => hagree i (lt_of_mem_window hp hi)

/-- Settles O34: were every value of the window above the average, or every one below it, the average would be too. -/
theorem outputsStayWithinTheWindow : Obligations.OutputsStayWithinTheWindow := by
  intro e n r p src c hp
  refine ⟨?least, ?greatest, channelOf_le c _⟩
  all_goals rw [channelOf_linePixel e src c hp]; by_contra! hall
  case least => exact absurd (le_lineAverage hp hall) (Nat.not_succ_le_self _)
  case greatest =>
    have hpos := hall p (self_mem_window e hp)
    have hle := lineAverage_le hp fun i hi => Nat.le_sub_one_of_lt (hall i hi)
    omega

end Sys2Proof.Machine

/-! PROOF. The stream of a LINE (44_line_filter R170, R172): the positions each step of the slide admits and evicts as lists,
what those lists join to over the whole line, and the stream's counts read off them. -/

namespace Sys2Proof.Machine

/-! ### The positions admitted and evicted at a position -/

/-- The position admitted at `p`, if any (44 R163). -/
def slideAdmits (n r p : Nat) : List Nat := if 1 ≤ p ∧ p + r < n then [p + r] else []

/-- The position evicted at `p`, if any (44 R163, R164). -/
def slideEvicts (e : Evict) (r p : Nat) : List Nat := if 1 ≤ p ∧ evictable e r p = true then [p - r - 1] else []

theorem uopsAdmit_if_eq_flatMap (ms : Space) (base stride n r p : Nat) :
    (if 1 ≤ p ∧ p + r < n then uopsAdmit ms base stride (p + r) else []) =
      (slideAdmits n r p).flatMap (uopsAdmit ms base stride) := by
  rw [slideAdmits]
  split <;> simp

theorem uopsEvict_if_eq_flatMap (e : Evict) (ms : Space) (base stride r p : Nat) :
    (if 1 ≤ p ∧ evictable e r p = true then uopsEvict ms base stride (p - r - 1) else []) =
      (slideEvicts e r p).flatMap (uopsEvict ms base stride) := by
  rw [slideEvicts]
  split <;> simp

theorem uopsSlide_eq (e : Evict) (ms md : Space) (base stride n r p : Nat) :
    uopsSlide e ms md base stride n r p =
      (slideAdmits n r p).flatMap (uopsAdmit ms base stride) ++
        (slideEvicts e r p).flatMap (uopsEvict ms base stride) ++ uopsEmit md base stride p := by
  rw [uopsSlide, uopsAdmit_if_eq_flatMap, uopsEvict_if_eq_flatMap]

/-! ### The positions admitted and evicted over a line -/

/-- Before position `k` the slide has admitted the positions that follow those of the first window, in order. -/
theorem flatMap_slideAdmits (n r k : Nat) :
    (List.range k).flatMap (slideAdmits n r) = List.range' (r + 1) (min (n - 1 - r) (k - 1)) := by
  induction k with
  | zero => simp
  | succ k ih =>
    rw [List.range_succ, List.flatMap_append, ih, List.flatMap_singleton, slideAdmits]
    split
    next h =>
      have hold : min (n - 1 - r) (k - 1) = k - 1 := by omega
      have hnew : min (n - 1 - r) (k + 1 - 1) = k - 1 + 1 := by omega
      have hat : k + r = r + 1 + (k - 1) := by omega
      rw [hold, hnew, hat, List.range'_1_concat]
    next h =>
      have hsame : min (n - 1 - r) (k + 1 - 1) = min (n - 1 - r) (k - 1) := by omega
      rw [List.append_nil, hsame]

/-- 44 R172: every position of the line is admitted once, in the first window or by the slide, in ascending order. -/
theorem range_append_flatMap_slideAdmits {n : Nat} (r : Nat) (hn : 1 ≤ n) :
    List.range (min r (n - 1) + 1) ++ (List.range n).flatMap (slideAdmits n r) = List.range n := by
  rw [flatMap_slideAdmits, min_eq_left (by omega : n - 1 - r ≤ n - 1)]
  rcases Nat.lt_or_ge r (n - 1) with h | h
  · have hlen : n = r + 1 + (n - 1 - r) := by omega
    conv_rhs => rw [hlen, List.range_eq_range', ← List.range'_append_1, Nat.zero_add]
    rw [min_eq_left h.le, List.range_eq_range']
  · rw [min_eq_right h, Nat.sub_eq_zero_of_le h, Nat.sub_add_cancel hn, List.range'_zero, List.append_nil]

/-- 44 R172: how many positions the slide has evicted before position `k`. -/
theorem length_flatMap_slideEvicts (e : Evict) (r k : Nat) :
    ((List.range k).flatMap (slideEvicts e r)).length = evictions e k r := by
  induction k with
  | zero => cases e <;> simp [evictions]
  | succ k ih =>
    rw [List.range_succ, List.flatMap_append, List.length_append, ih, List.flatMap_singleton, slideEvicts]
    cases e with
    | ge0 =>
      simp only [evictable, evictions, decide_eq_true_eq]
      split <;> simp only [List.length_cons, List.length_nil] <;> omega
    | gt0 =>
      simp only [evictable, evictions, decide_eq_true_eq]
      split <;> simp only [List.length_cons, List.length_nil] <;> omega

theorem evictions_le (e : Evict) (n r : Nat) : evictions e n r ≤ n - 1 - r := by
  cases e with
  | ge0 => exact le_rfl
  | gt0 => exact Nat.sub_le_sub_right (by omega) r

/-! ### Counting micro-ops -/

section Count

variable {q : Instr → Bool} {a v m : Nat}

/-- Blocks that count alike count as many times as there are blocks. -/
theorem countP_flatMap_const {f : Nat → List Instr} (hf : ∀ i, (f i).countP q = a) (l : List Nat) :
    (l.flatMap f).countP q = l.length * a := by
  induction l with
  | nil => simp
  | cons i l ih => rw [List.flatMap_cons, List.countP_append, hf, ih, List.length_cons, Nat.succ_mul, Nat.add_comm]

/-- 44 R172: in all, a LINE is one WCLR, `n` admissions, `E` evictions and `n` emissions. -/
theorem countP_uopsLine (e : Evict) (ms md : Space) (base stride : Nat) {n : Nat} (r : Nat) (hn : 1 ≤ n)
    (hadmit : ∀ i, (uopsAdmit ms base stride i).countP q = a)
    (hevict : ∀ i, (uopsEvict ms base stride i).countP q = v)
    (hemit : ∀ i, (uopsEmit md base stride i).countP q = m) :
    (uopsLine e ms md base stride n r).countP q =
      [Instr.wclr].countP q + n * a + evictions e n r * v + n * m := by
  have hslide (l : List Nat) : (l.flatMap (uopsSlide e ms md base stride n r)).countP q =
      (l.flatMap (slideAdmits n r)).length * a + (l.flatMap (slideEvicts e r)).length * v + l.length * m := by
    induction l with
    | nil => simp
    | cons p l ih =>
      simp only [List.flatMap_cons, uopsSlide_eq, List.countP_append, countP_flatMap_const hadmit,
        countP_flatMap_const hevict, hemit, ih, List.length_append, List.length_cons]
      ring
  have hadmitted := congrArg List.length (range_append_flatMap_slideAdmits r hn)
  simp only [List.length_append, List.length_range] at hadmitted
  rw [uopsLine, ← List.singleton_append, List.countP_append, List.countP_append, countP_flatMap_const hadmit, hslide,
    length_flatMap_slideEvicts, List.length_range, List.length_range]
  calc [Instr.wclr].countP q + ((min r (n - 1) + 1) * a +
        (((List.range n).flatMap (slideAdmits n r)).length * a + evictions e n r * v + n * m))
    _ = [Instr.wclr].countP q + (min r (n - 1) + 1 + ((List.range n).flatMap (slideAdmits n r)).length) * a +
        evictions e n r * v + n * m := by ring
    _ = [Instr.wclr].countP q + n * a + evictions e n r * v + n * m := by rw [hadmitted]

end Count

/-- 44 R172: the length of the stream. -/
theorem length_uopsLine (e : Evict) (ms md : Space) (base stride : Nat) {n : Nat} (r : Nat) (hn : 1 ≤ n) :
    (uopsLine e ms md base stride n r).length = 1 + 6 * n + 3 * evictions e n r := by
  have h := countP_uopsLine (q := fun _ => true) e ms md base stride r hn
    (fun _ => rfl) (fun _ => rfl) (fun _ => rfl)
  simp only [List.countP_true, List.length_singleton] at h
  omega

theorem loadCount_uopsLine (e : Evict) (ms md : Space) (base stride : Nat) {n : Nat} (r : Nat) (hn : 1 ≤ n) :
    loadCount (uopsLine e ms md base stride n r) = n + evictions e n r := by
  simpa [loadCount, isLoad] using countP_uopsLine (q := isLoad) e ms md base stride r hn
    (fun _ => rfl) (fun _ => rfl) (fun _ => rfl)

/-! ### The words a stream stores -/

theorem storedWords_append (is js : List Instr) : storedWords (is ++ js) = storedWords is ++ storedWords js :=
  List.filterMap_append

/-- Blocks without a store add no stored word. -/
theorem storedWords_flatMap_nil {f : Nat → List Instr} (hf : ∀ i, storedWords (f i) = []) (l : List Nat) :
    storedWords (l.flatMap f) = [] := by
  induction l with
  | nil => rfl
  | cons i l ih => rw [List.flatMap_cons, storedWords_append, hf, ih, List.append_nil]

/-- A step of the slide stores one word, at its own position. -/
theorem storedWords_uopsSlide (e : Evict) (ms md : Space) (base stride n r p : Nat) :
    storedWords (uopsSlide e ms md base stride n r p) = [(md, lineIndex base stride p)] := by
  rw [uopsSlide_eq, storedWords_append, storedWords_append, storedWords_flatMap_nil fun _ => rfl,
    storedWords_flatMap_nil fun _ => rfl]
  rfl

/-- 44 R172: the positions are emitted once each, in ascending order. -/
theorem storedWords_uopsLine (e : Evict) (ms md : Space) (base stride n r : Nat) :
    storedWords (uopsLine e ms md base stride n r) =
      (List.range n).map fun p => (md, lineIndex base stride p) := by
  have hslide (l : List Nat) : storedWords (l.flatMap (uopsSlide e ms md base stride n r)) =
      l.map fun p => (md, lineIndex base stride p) := by
    induction l with
    | nil => rfl
    | cons p l ih => rw [List.flatMap_cons, storedWords_append, storedWords_uopsSlide, ih, List.map_cons]; rfl
  rw [uopsLine, ← List.singleton_append, storedWords_append, storedWords_append,
    storedWords_flatMap_nil fun _ => rfl, hslide]
  rfl

/-! ### The positions a stream admits -/

/-- Admissions at the head of a stream are read off one by one. -/
theorem admittedIndices_flatMap_uopsAdmit (ms : Space) (base stride : Nat) (l : List Nat) (is : List Instr) :
    admittedIndices (l.flatMap (uopsAdmit ms base stride) ++ is) =
      l.map (lineIndex base stride) ++ admittedIndices is := by
  induction l with
  | nil => rfl
  | cons i l ih =>
    calc admittedIndices ((i :: l).flatMap (uopsAdmit ms base stride) ++ is)
      _ = lineIndex base stride i :: admittedIndices (l.flatMap (uopsAdmit ms base stride) ++ is) := rfl
      _ = (i :: l).map (lineIndex base stride) ++ admittedIndices is := by rw [ih]; rfl

/-- An eviction loads too, but its triple ends in WSUB. -/
theorem admittedIndices_flatMap_uopsEvict (ms : Space) (base stride : Nat) (l : List Nat) (is : List Instr) :
    admittedIndices (l.flatMap (uopsEvict ms base stride) ++ is) = admittedIndices is := by
  induction l with
  | nil => rfl
  | cons i l ih => exact ih

theorem admittedIndices_uopsEmit (md : Space) (base stride p : Nat) (is : List Instr) :
    admittedIndices (uopsEmit md base stride p ++ is) = admittedIndices is := rfl

/-- 44 R172: the positions are admitted once each, in ascending order. -/
theorem admittedIndices_uopsLine (e : Evict) (ms md : Space) (base stride : Nat) {n : Nat} (r : Nat) (hn : 1 ≤ n) :
    admittedIndices (uopsLine e ms md base stride n r) = (List.range n).map (lineIndex base stride) := by
  have hslide (l : List Nat) : admittedIndices (l.flatMap (uopsSlide e ms md base stride n r)) =
      (l.flatMap (slideAdmits n r)).map (lineIndex base stride) := by
    induction l with
    | nil => rfl
    | cons p l ih =>
      rw [List.flatMap_cons, uopsSlide_eq, List.append_assoc, List.append_assoc, admittedIndices_flatMap_uopsAdmit,
        admittedIndices_flatMap_uopsEvict, admittedIndices_uopsEmit, ih, List.flatMap_cons, List.map_append]
  have hwclr (is : List Instr) : admittedIndices (.wclr :: is) = admittedIndices is := rfl
  rw [uopsLine, hwclr, admittedIndices_flatMap_uopsAdmit, hslide, ← List.map_append,
    range_append_flatMap_slideAdmits r hn]

/-! ### The obligation -/

/-- Settles O22: each count is a count of the blocks; the bound holds because at least the first two positions need no
eviction, or there is one position only. -/
theorem lineStreamCost : Obligations.LineStreamCost := by
  intro e ms md base stride n r hn hr
  have hlen := length_uopsLine e ms md base stride r hn
  have hstored := storedWords_uopsLine e ms md base stride n r
  have hcount (i : Instr) {a v m : Nat} :=
    countP_uopsLine (q := (· == i)) (a := a) (v := v) (m := m) e ms md base stride r hn
  refine ⟨hlen, ?bound, ?wadd, ?wsub, ?wdiv, admittedIndices_uopsLine e ms md base stride r hn, hstored,
    loadCount_uopsLine e ms md base stride r hn, ?stores⟩
  case bound =>
    have hE := evictions_le e n r
    omega
  case wadd => simpa [List.count] using hcount .wadd (fun _ => rfl) (fun _ => rfl) (fun _ => rfl)
  case wsub => simpa [List.count] using hcount .wsub (fun _ => rfl) (fun _ => rfl) (fun _ => rfl)
  case wdiv => simpa [List.count] using hcount .wdiv (fun _ => rfl) (fun _ => rfl) (fun _ => rfl)
  case stores => rw [storeCount, hstored, List.length_map, List.length_range]

end Sys2Proof.Machine

/-! PROOF. What executing a LINE does (44_line_filter R173, R174). While the stream runs, ACC and CNT are the sums and the number
of a list of positions: an admission puts a position in the list, an eviction takes one out, and before the WDIV of `p` the
list is the window of `p`. -/

namespace Sys2Proof.Machine

/-! ### The three blocks as next states -/

/-- The state after LDP of a word and UNPK. -/
def State.unpackWord (s : State) (w : BitVec 32) : State := ((s.withPx w).advance.withCh (unpack w)).advance

/-- The state after `ADMIT` of a word (44 R170). -/
def State.admitWord (s : State) (w : BitVec 32) : State :=
  ((s.unpackWord w).withWindow (s.acc.zip laneAdd (unpack w)) (s.cnt + 1#32)).advance

/-- The state after `EVICT` of a word (44 R170). -/
def State.evictWord (s : State) (w : BitVec 32) : State :=
  ((s.unpackWord w).withWindow (s.acc.zip laneSub (unpack w)) (s.cnt - 1#32)).advance

/-- The averages the lanes hold, packed (42 R133, 41 R121). -/
def State.quotient (s : State) : BitVec 32 := pack (s.acc.map (laneDiv s.cnt))

/-- The state after WDIV and PACK. -/
def State.divide (s : State) : State :=
  ((s.withQ (s.acc.map (laneDiv s.cnt))).advance.withPx s.quotient).advance

/-- The state after `EMIT` to the word `i` of the space `m` (44 R170). -/
def State.emitWord (s : State) (m : Space) (i : Nat) : State := s.divide.advance.putWord m i s.quotient

section

variable (s : State) (w : BitVec 32) (m : Space) (i : Nat)

@[simp] theorem State.admitWord_acc : (s.admitWord w).acc = s.acc.zip laneAdd (unpack w) := by simp [State.admitWord]
@[simp] theorem State.admitWord_cnt : (s.admitWord w).cnt = s.cnt + 1#32 := by simp [State.admitWord]
@[simp] theorem State.evictWord_acc : (s.evictWord w).acc = s.acc.zip laneSub (unpack w) := by simp [State.evictWord]
@[simp] theorem State.evictWord_cnt : (s.evictWord w).cnt = s.cnt - 1#32 := by simp [State.evictWord]
@[simp] theorem State.emitWord_acc : (s.emitWord m i).acc = s.acc := by simp [State.emitWord, State.divide]
@[simp] theorem State.emitWord_cnt : (s.emitWord m i).cnt = s.cnt := by simp [State.emitWord, State.divide]

end

/-! ### Changes of the datapath only -/

section SameButDatapath

variable {s t u : State}

theorem SameButDatapath.refl (s : State) : SameButDatapath s s := rfl

theorem SameButDatapath.trans (hst : SameButDatapath s t) (htu : SameButDatapath t u) : SameButDatapath s u := by
  rw [SameButDatapath, htu, hst]

theorem SameButDatapath.withPx (h : SameButDatapath s t) (w : BitVec 32) : SameButDatapath s (t.withPx w) := h.trans rfl

theorem SameButDatapath.withCh (h : SameButDatapath s t) (l : Lanes 8) : SameButDatapath s (t.withCh l) := h.trans rfl

theorem SameButDatapath.withQ (h : SameButDatapath s t) (l : Lanes 8) : SameButDatapath s (t.withQ l) := h.trans rfl

theorem SameButDatapath.withWindow (h : SameButDatapath s t) (a : Lanes 32) (n : BitVec 32) :
    SameButDatapath s (t.withWindow a n) := h.trans rfl

theorem SameButDatapath.advance (h : SameButDatapath s t) : SameButDatapath s t.advance := h.trans rfl

end SameButDatapath

theorem State.unpackWord_sameButDatapath (s : State) (w : BitVec 32) : SameButDatapath s (s.unpackWord w) :=
  ((SameButDatapath.refl s).withPx w).advance.withCh (unpack w) |>.advance

theorem State.admitWord_sameButDatapath (s : State) (w : BitVec 32) : SameButDatapath s (s.admitWord w) :=
  ((s.unpackWord_sameButDatapath w).withWindow ..).advance

theorem State.evictWord_sameButDatapath (s : State) (w : BitVec 32) : SameButDatapath s (s.evictWord w) :=
  ((s.unpackWord_sameButDatapath w).withWindow ..).advance

theorem State.divide_sameButDatapath (s : State) : SameButDatapath s s.divide :=
  ((SameButDatapath.refl s).withQ _).advance.withPx s.quotient |>.advance

theorem SameButDatapath.wordAt_eq {s t : State} (h : SameButDatapath s t) (m : Space) (i : Nat) :
    t.wordAt m i = s.wordAt m i := by
  rw [h]
  exact State.wordAt_congr rfl rfl rfl rfl m i

theorem State.wordAt_emitWord_same (s : State) (m : Space) (i : Nat) : (s.emitWord m i).wordAt m i = s.quotient :=
  State.wordAt_putWord_same ..

theorem State.wordAt_emitWord_other (s : State) {m m' : Space} {i i' : Nat} (h : ¬(m' = m ∧ i' = i)) :
    (s.emitWord m i).wordAt m' i' = s.wordAt m' i' :=
  (State.wordAt_putWord_other _ _ h).trans (s.divide_sameButDatapath.advance.wordAt_eq m' i')

/-- 20_memory R53, 43 R152: an index below CAP fits the bundle's field, so it does not wrap. -/
theorem toNat_lineIndex {base stride p : Nat} {c : Config} (h : base + p * stride < c.cap) :
    (lineIndex base stride p).toNat = base + p * stride := by
  have hcap : c.cap ≤ 2 ^ 32 := c.lastIndex.isLt
  rw [lineIndex, BitVec.toNat_ofNat, Nat.mod_eq_of_lt (h.trans_le hcap)]

section Blocks

variable {s : State} {base stride p : Nat}

/-- The load of a position's word. -/
theorem exec_ldp_lineIndex (m : Space) (h : base + p * stride < s.cfg.cap) :
    exec (.ldp m (lineIndex base stride p)) s = .next (s.withPx (s.wordAt m (base + p * stride))).advance :=
  exec_ldp_next.mpr (by rw [toNat_lineIndex h]; exact ⟨h, rfl⟩)

/-- Each block is three micro-ops. -/
theorem runUops_three {i j k : Instr} {t u v : State} (hi : exec i s = .next t) (hj : exec j t = .next u)
    (hk : exec k u = .next v) : runUops [i, j, k] s = .next v :=
  runUops_cons_next.mpr ⟨t, hi, runUops_cons_next.mpr ⟨u, hj, runUops_cons_next.mpr ⟨v, hk, rfl⟩⟩⟩

theorem runUops_uopsAdmit (m : Space) (h : base + p * stride < s.cfg.cap) :
    runUops (uopsAdmit m base stride p) s = .next (s.admitWord (s.wordAt m (base + p * stride))) :=
  runUops_three (exec_ldp_lineIndex m h) (exec_unpk_next.mpr rfl) (exec_wadd_next.mpr rfl)

theorem runUops_uopsEvict (m : Space) (h : base + p * stride < s.cfg.cap) :
    runUops (uopsEvict m base stride p) s = .next (s.evictWord (s.wordAt m (base + p * stride))) :=
  runUops_three (exec_ldp_lineIndex m h) (exec_unpk_next.mpr rfl) (exec_wsub_next.mpr rfl)

theorem runUops_uopsEmit (m : Space) (hcnt : s.cnt ≠ 0#32) (h : base + p * stride < s.cfg.cap) :
    runUops (uopsEmit m base stride p) s = .next (s.emitWord m (base + p * stride)) := by
  have hstp {u : State} (hu : u.cfg = s.cfg) :
      exec (.stp m (lineIndex base stride p)) u = .next (u.advance.putWord m (base + p * stride) u.px) :=
    exec_stp_next.mpr (by rw [hu, toNat_lineIndex h]; exact ⟨h, rfl⟩)
  exact runUops_three ((exec_wdiv_of_cnt_ne_zero hcnt).mpr rfl) (exec_pack_next.mpr rfl) (hstp rfl)

end Blocks

/-! ### The window in ACC and CNT -/

/-- ACC and CNT are the sums and the number of the positions `l` of the line `src`, modulo 2^32. -/
def HoldsPositions (src : Nat → BitVec 32) (l : List Nat) (t : State) : Prop :=
  (∀ c, t.acc.get c = BitVec.ofNat 32 (l.map fun i => channelOf c (src i)).sum) ∧ t.cnt = BitVec.ofNat 32 l.length

theorem laneAdd_ofNat (a : Nat) (c : BitVec 8) : laneAdd (BitVec.ofNat 32 a) c = BitVec.ofNat 32 (c.toNat + a) := by
  rw [laneAdd, ← BitVec.ofNat_toNat, ← BitVec.ofNat_add, Nat.add_comm]

theorem laneSub_ofNat (a : Nat) (c : BitVec 8) : laneSub (BitVec.ofNat 32 (c.toNat + a)) c = BitVec.ofNat 32 a := by
  rw [laneSub, ← BitVec.ofNat_toNat, BitVec.ofNat_add, add_sub_cancel_left]

section HoldsPositions

variable {src : Nat → BitVec 32} {l l' : List Nat} {t : State}

/-- After WCLR no position is in the window (42 R130). -/
theorem HoldsPositions.clear (t : State) :
    HoldsPositions src [] (t.withWindow (Lanes.splat 0#32) 0#32).advance :=
  ⟨fun c => by cases c <;> rfl, rfl⟩

theorem HoldsPositions.admitWord (h : HoldsPositions src l t) (i : Nat) :
    HoldsPositions src (i :: l) (t.admitWord (src i)) := by
  obtain ⟨hacc, hcnt⟩ := h
  constructor
  case left =>
    intro c
    rw [State.admitWord_acc, Lanes.get_zip, hacc, laneAdd_ofNat]
    rfl
  case right => rw [State.admitWord_cnt, hcnt, List.length_cons, BitVec.ofNat_add]

theorem HoldsPositions.evictWord {i : Nat} (h : HoldsPositions src (i :: l) t) :
    HoldsPositions src l (t.evictWord (src i)) := by
  obtain ⟨hacc, hcnt⟩ := h
  constructor
  case left =>
    intro c
    rw [State.evictWord_acc, Lanes.get_zip, hacc, List.map_cons, List.sum_cons, channelOf, laneSub_ofNat]
  case right => rw [State.evictWord_cnt, hcnt, List.length_cons, BitVec.ofNat_add, BitVec.add_sub_cancel]

/-- Sums do not see the order of the positions. -/
theorem HoldsPositions.perm (h : HoldsPositions src l t) (hl : l.Perm l') : HoldsPositions src l' t := by
  obtain ⟨hacc, hcnt⟩ := h
  exact ⟨fun c => by rw [hacc, (hl.map _).sum_eq], by rw [hcnt, hl.length_eq]⟩

end HoldsPositions

/-! ### From one window to the next -/

/-- The first window: the positions the LINE admits before its first WDIV. -/
theorem window_zero (e : Evict) (n r : Nat) : window e n r 0 = List.range (min r (n - 1) + 1) := by
  have hge0 : window .ge0 n r 0 = List.range (min r (n - 1) + 1) := by
    rw [window_ge0_eq_range', List.range_eq_range', windowLo, windowHi, Nat.zero_sub, Nat.zero_add, Nat.sub_zero,
      min_comm]
  cases e with
  | ge0 => exact hge0
  | gt0 => rw [window_gt0_of_le (Nat.zero_le r), hge0]

theorem mem_slideAdmits {n r p i : Nat} : i ∈ slideAdmits n r p ↔ 1 ≤ p ∧ i < n ∧ i = p + r := by
  rw [slideAdmits]
  split
  next h =>
    rw [List.mem_singleton]
    omega
  next h =>
    simp only [List.not_mem_nil, false_iff]
    omega

theorem mem_slideEvicts {e : Evict} {r p i : Nat} :
    i ∈ slideEvicts e r p ↔ (1 ≤ p ∧ evictable e r p = true) ∧ i = p - r - 1 := by
  rw [slideEvicts]
  split
  next h => simp [h]
  next h => simp [h]

theorem slideAdmits_nodup (n r p : Nat) : (slideAdmits n r p).Nodup := by
  rw [slideAdmits]
  split <;> simp

theorem slideEvicts_nodup (e : Evict) (r p : Nat) : (slideEvicts e r p).Nodup := by
  rw [slideEvicts]
  split <;> simp

/-- The window of `p` and the position admitted cover what the window of `p + 1` and the position evicted cover. -/
theorem mem_slideAdmits_or_window_iff (e : Evict) {n r p i : Nat} (hp : p + 1 < n) :
    i ∈ slideAdmits n r (p + 1) ∨ i ∈ window e n r p ↔ i ∈ slideEvicts e r (p + 1) ∨ i ∈ window e n r (p + 1) := by
  have hp' : p < n := by omega
  cases e with
  | ge0 =>
    simp only [mem_slideAdmits, mem_slideEvicts, mem_window_ge0 hp, mem_window_ge0 hp', evictable, decide_eq_true_eq]
    omega
  | gt0 =>
    simp only [mem_slideAdmits, mem_slideEvicts, mem_window_gt0 hp, mem_window_gt0 hp', mem_window_ge0 hp,
      mem_window_ge0 hp', evictable, decide_eq_true_eq]
    omega

theorem disjoint_slideAdmits_window (e : Evict) {n r p : Nat} (hp : p + 1 < n) :
    (slideAdmits n r (p + 1)).Disjoint (window e n r p) := by
  have hp' : p < n := by omega
  intro i hadmit hwindow
  rw [mem_slideAdmits] at hadmit
  cases e with
  | ge0 =>
    rw [mem_window_ge0 hp'] at hwindow
    omega
  | gt0 =>
    rw [mem_window_gt0 hp', mem_window_ge0 hp'] at hwindow
    omega

theorem disjoint_slideEvicts_window (e : Evict) {n r p : Nat} (hp : p + 1 < n) :
    (slideEvicts e r (p + 1)).Disjoint (window e n r (p + 1)) := by
  intro i hevict hwindow
  rw [mem_slideEvicts] at hevict
  cases e with
  | ge0 =>
    simp only [evictable, decide_eq_true_eq] at hevict
    rw [mem_window_ge0 hp] at hwindow
    omega
  | gt0 =>
    simp only [evictable, decide_eq_true_eq] at hevict
    rw [mem_window_gt0 hp, mem_window_ge0 hp] at hwindow
    omega

/-- 44 R173: the window of `p` with the position admitted is the window of `p + 1` with the position evicted. -/
theorem slideAdmits_append_window_perm (e : Evict) {n r p : Nat} (hp : p + 1 < n) :
    (slideAdmits n r (p + 1) ++ window e n r p).Perm (slideEvicts e r (p + 1) ++ window e n r (p + 1)) := by
  have hbefore : (slideAdmits n r (p + 1) ++ window e n r p).Nodup :=
    (slideAdmits_nodup n r (p + 1)).append (window_nodup e (Nat.lt_of_succ_lt hp)) (disjoint_slideAdmits_window e hp)
  have hafter : (slideEvicts e r (p + 1) ++ window e n r (p + 1)).Nodup :=
    (slideEvicts_nodup e r (p + 1)).append (window_nodup e hp) (disjoint_slideEvicts_window e hp)
  rw [List.perm_ext_iff_of_nodup hbefore hafter]
  intro i
  rw [List.mem_append, List.mem_append]
  exact mem_slideAdmits_or_window_iff e hp

/-! ### The state in the middle of a LINE -/

/-- The line of a space: position `i` is the word at `base + i * stride` (44 R160). -/
def State.line (s : State) (m : Space) (base stride i : Nat) : BitVec 32 := s.wordAt m (base + i * stride)

/-- `t` is reached from `s` by part of a LINE that reads the space `ms`, has written the first `k` positions of `out` to the
space `md`, and has the positions `l` in its window. -/
structure LineState (s : State) (ms md : Space) (base stride : Nat) (out : Nat → BitVec 32) (k : Nat) (l : List Nat)
    (t : State) : Prop where
  registers : t = { s with
    px := t.px, ch := t.ch, q := t.q, acc := t.acc, cnt := t.cnt, upc := t.upc, buf := t.buf, scr := t.scr }
  outputs : ∀ q < k, t.wordAt md (base + q * stride) = out q
  others : ∀ m i, ¬(m = md ∧ ∃ q < k, i = base + q * stride) → t.wordAt m i = s.wordAt m i
  window : HoldsPositions (s.line ms base stride) l t

section LineState

variable {s t : State} {ms md : Space} {base stride k i : Nat} {out : Nat → BitVec 32} {l l' : List Nat}

theorem LineState.cfg_eq (h : LineState s ms md base stride out k l t) : t.cfg = s.cfg :=
  (congrArg State.cfg h.registers :)

/-- 44 R168: the line read is not the line written, so its words stand as they did. -/
theorem LineState.source (h : LineState s ms md base stride out k l t) (hne : ms ≠ md) (i : Nat) :
    t.wordAt ms (base + i * stride) = s.line ms base stride i :=
  h.others ms _ fun hmd => hne hmd.1

/-- A change of the datapath only leaves what a LINE has written. -/
theorem LineState.of_sameButDatapath {u : State} (h : LineState s ms md base stride out k l t)
    (hu : SameButDatapath t u) (hl : HoldsPositions (s.line ms base stride) l' u) :
    LineState s ms md base stride out k l' u where
  registers := by
    rw [hu, h.registers]
  outputs q hq := (hu.wordAt_eq _ _).trans (h.outputs q hq)
  others m i hi := (hu.wordAt_eq m i).trans (h.others m i hi)
  window := hl

theorem LineState.perm (h : LineState s ms md base stride out k l t) (hl : l.Perm l') :
    LineState s ms md base stride out k l' t := { h with window := h.window.perm hl }

/-- An admission of positions, one after the other. -/
theorem LineState.admits (hne : ms ≠ md) (js : List Nat) (hcap : ∀ i ∈ js, base + i * stride < s.cfg.cap)
    (h : LineState s ms md base stride out k l t) :
    ∃ u, runUops (js.flatMap (uopsAdmit ms base stride)) t = .next u ∧
      LineState s ms md base stride out k (js.reverse ++ l) u := by
  induction js generalizing l t with
  | nil => exact ⟨t, rfl, h⟩
  | cons i js ih =>
    have hrun := runUops_uopsAdmit (s := t) ms (h.cfg_eq ▸ hcap i List.mem_cons_self)
    rw [h.source hne] at hrun
    obtain ⟨u, hu, hstate⟩ := ih (fun j hj => hcap j (List.mem_cons_of_mem i hj))
      (h.of_sameButDatapath (t.admitWord_sameButDatapath _) (h.window.admitWord i))
    refine ⟨u, runUops_append_next.mpr ⟨_, hrun, hu⟩, ?_⟩
    rwa [List.reverse_cons, List.append_assoc]

/-- An eviction of positions that the window holds. -/
theorem LineState.evicts (hne : ms ≠ md) (js : List Nat) (hcap : ∀ i ∈ js, base + i * stride < s.cfg.cap)
    (h : LineState s ms md base stride out k (js ++ l) t) :
    ∃ u, runUops (js.flatMap (uopsEvict ms base stride)) t = .next u ∧ LineState s ms md base stride out k l u := by
  induction js generalizing t with
  | nil => exact ⟨t, rfl, h⟩
  | cons i js ih =>
    have hrun := runUops_uopsEvict (s := t) ms (h.cfg_eq ▸ hcap i List.mem_cons_self)
    rw [h.source hne] at hrun
    obtain ⟨u, hu, hstate⟩ := ih (fun j hj => hcap j (List.mem_cons_of_mem i hj))
      (h.of_sameButDatapath (t.evictWord_sameButDatapath _) h.window.evictWord)
    exact ⟨u, runUops_append_next.mpr ⟨_, hrun, hu⟩, hstate⟩

/-- An emission writes one more position of the line and leaves the window. -/
theorem LineState.emitWord (hstride : 1 ≤ stride) (h : LineState s ms md base stride out k l t)
    (hout : t.quotient = out k) :
    LineState s ms md base stride out (k + 1) l (t.emitWord md (base + k * stride)) where
  registers := by
    rw [State.emitWord, State.putWord_eq_with_spaces, t.divide_sameButDatapath.advance, h.registers]
  outputs q hq := by
    rcases Nat.lt_succ_iff_lt_or_eq.mp hq with hlt | rfl
    · have hother : base + q * stride ≠ base + k * stride := by
        have hmul := Nat.mul_lt_mul_of_pos_right hlt hstride
        omega
      rw [t.wordAt_emitWord_other fun hsame => hother hsame.2]
      exact h.outputs q hlt
    · rw [t.wordAt_emitWord_same, hout]
  others m i hi := by
    rw [t.wordAt_emitWord_other fun ⟨hm, hk⟩ => hi ⟨hm, k, Nat.lt_succ_self k, hk⟩]
    exact h.others m i fun ⟨hm, q, hq, hiq⟩ => hi ⟨hm, q, Nat.lt_succ_of_lt hq, hiq⟩
  window := by
    obtain ⟨hacc, hcnt⟩ := h.window
    exact ⟨fun c => by rw [State.emitWord_acc, hacc], by rw [State.emitWord_cnt, hcnt]⟩

end LineState

/-! ### The division -/

theorem pixel_ext {w v : BitVec 32} (h : ∀ c, (unpack w).get c = (unpack v).get c) : w = v := by
  rw [← pack_unpack w, ← pack_unpack v, Lanes.ext_get h]

section Division

variable {e : Evict} {n r p : Nat} {src : Nat → BitVec 32} {t : State}

/-- 42 R140: with a legal radius the count stays far below 2^32. -/
theorem HoldsPositions.toNat_cnt (hp : p < n) (hr : r ≤ 100) (h : HoldsPositions src (window e n r p) t) :
    t.cnt.toNat = windowCount e n r p := by
  have hle := windowCount_le e (r := r) hp
  rw [h.2, length_window e hp, BitVec.toNat_ofNat, Nat.mod_eq_of_lt (by omega)]

/-- 42 R137, R140: with a legal radius no sum wraps. -/
theorem HoldsPositions.toNat_acc (hp : p < n) (hr : r ≤ 100) (h : HoldsPositions src (window e n r p) t) (c : Channel) :
    (t.acc.get c).toNat = windowSum e n r (fun i => channelOf c (src i)) p := by
  have hle := windowCount_le e (r := r) hp
  have hsum : windowSum e n r (fun i => channelOf c (src i)) p ≤ 255 * windowCount e n r p :=
    windowSum_le hp fun i _ => channelOf_le c (src i)
  rw [h.1, BitVec.toNat_ofNat]
  exact Nat.mod_eq_of_lt (lt_of_le_of_lt hsum (by omega))

/-- 44 R169: there is no division by zero. -/
theorem HoldsPositions.cnt_ne_zero (hp : p < n) (hr : r ≤ 100) (h : HoldsPositions src (window e n r p) t) :
    t.cnt ≠ 0#32 := by
  intro h0
  have hcnt := h.toNat_cnt hp hr
  have hpos := windowCount_pos e (r := r) hp
  rw [h0, BitVec.toNat_zero] at hcnt
  omega

/-- 44 R162: the quotients of a window's sums by its count are the output of its position. -/
theorem HoldsPositions.quotient_eq (hp : p < n) (hr : r ≤ 100) (h : HoldsPositions src (window e n r p) t) :
    t.quotient = linePixel e n r src p := by
  refine pixel_ext fun c => BitVec.eq_of_toNat_eq ?_
  rw [State.quotient, unpack_pack, Lanes.get_map, toNat_laneDiv, h.toNat_acc hp hr, h.toNat_cnt hp hr,
    get_unpack_linePixel, BitVec.toNat_ofNat, lineAverage]

end Division

/-! ### The LINE -/

section Line

variable {s : State} {ms md : Space} {base stride n r : Nat}

/-- A position of the line is an index below CAP. -/
theorem position_lt_cap {c : Config} {i : Nat} (hcap : base + (n - 1) * stride < c.cap) (hi : i < n) :
    base + i * stride < c.cap :=
  lt_of_le_of_lt (Nat.add_le_add_left (Nat.mul_le_mul_right stride (Nat.le_sub_one_of_lt hi)) base) hcap

/-- Up to the first WDIV the stream clears the window and admits the first window's positions. -/
theorem uopsLineToDivision_zero (e : Evict) (ms md : Space) (base stride n r : Nat) :
    uopsLineToDivision e ms md base stride n r 0 =
      .wclr :: (List.range (min r (n - 1) + 1)).flatMap (uopsAdmit ms base stride) := by
  simp [uopsLineToDivision]

/-- From one WDIV to the next the stream emits the position, then slides. -/
theorem uopsLineToDivision_succ (e : Evict) (ms md : Space) (base stride n r p : Nat) :
    uopsLineToDivision e ms md base stride n r (p + 1) =
      uopsLineToDivision e ms md base stride n r p ++ (uopsEmit md base stride p ++
        ((slideAdmits n r (p + 1)).flatMap (uopsAdmit ms base stride) ++
          (slideEvicts e r (p + 1)).flatMap (uopsEvict ms base stride))) := by
  simp only [uopsLineToDivision, uopsAdmit_if_eq_flatMap, uopsEvict_if_eq_flatMap, List.range_succ,
    List.flatMap_append, List.flatMap_singleton, uopsSlide_eq, List.cons_append, List.append_assoc]

/-- The stream is the part up to the last WDIV and the last emission. -/
theorem uopsLine_eq_toDivision_append (e : Evict) (ms md : Space) (base stride r p : Nat) :
    uopsLine e ms md base stride (p + 1) r =
      uopsLineToDivision e ms md base stride (p + 1) r p ++ uopsEmit md base stride p := by
  simp only [uopsLine, uopsLineToDivision, uopsAdmit_if_eq_flatMap, uopsEvict_if_eq_flatMap, List.range_succ,
    List.flatMap_append, List.flatMap_singleton, uopsSlide_eq, List.cons_append, List.append_assoc]

/-- The output of a LINE started in `s`. -/
def State.lineOutput (s : State) (ms : Space) (base stride n r p : Nat) : BitVec 32 :=
  linePixel s.cfg.evict n r (s.line ms base stride) p

/-- The state in which a LINE started in `s` is when it reaches the WDIV of `p`: the positions before `p` are written and the
window is that of `p`. -/
abbrev AtDivision (s : State) (ms md : Space) (base stride n r p : Nat) (t : State) : Prop :=
  LineState s ms md base stride (s.lineOutput ms base stride n r) p (window s.cfg.evict n r p) t

/-- The emission at a WDIV: it answers a next state, with the position's output written. -/
theorem AtDivision.emits {t : State} {p : Nat} (hstride : 1 ≤ stride) (hr : r ≤ 100) (hp : p < n)
    (hcap : base + (n - 1) * stride < s.cfg.cap) (h : AtDivision s ms md base stride n r p t) :
    ∃ u, runUops (uopsEmit md base stride p) t = .next u ∧
      LineState s ms md base stride (s.lineOutput ms base stride n r) (p + 1) (window s.cfg.evict n r p) u :=
  ⟨_, runUops_uopsEmit md (h.window.cnt_ne_zero hp hr) (h.cfg_eq ▸ position_lt_cap hcap hp),
    h.emitWord hstride (h.window.quotient_eq hp hr)⟩

/-- 44 R173: executing the LINE's stream up to the WDIV of `p` holds the window of `p`. -/
theorem runUops_uopsLineToDivision {p : Nat} (hne : ms ≠ md) (hstride : 1 ≤ stride) (hr : r ≤ 100) (hp : p < n)
    (hcap : base + (n - 1) * stride < s.cfg.cap) :
    ∃ t, runUops (uopsLineToDivision s.cfg.evict ms md base stride n r p) s = .next t ∧
      AtDivision s ms md base stride n r p t := by
  induction p with
  | zero =>
    have hclear : LineState s ms md base stride (s.lineOutput ms base stride n r) 0 []
        (s.withWindow (Lanes.splat 0#32) 0#32).advance :=
      ⟨rfl, fun q hq => absurd hq (Nat.not_lt_zero q), fun _ _ _ => State.wordAt_congr rfl rfl rfl rfl _ _, .clear s⟩
    obtain ⟨t, ht, hstate⟩ := hclear.admits hne (List.range (min r (n - 1) + 1)) fun i hi =>
      position_lt_cap hcap (by rw [List.mem_range] at hi; omega)
    rw [uopsLineToDivision_zero]
    refine ⟨t, runUops_cons_next.mpr ⟨_, exec_wclr_next.mpr rfl, ht⟩, hstate.perm ?_⟩
    rw [List.append_nil, window_zero]
    exact List.reverse_perm _
  | succ p ih =>
    obtain ⟨t, ht, hat⟩ := ih (by omega)
    obtain ⟨u, hu, hemitted⟩ := hat.emits hstride hr (by omega) hcap
    obtain ⟨v, hv, hadmitted⟩ := hemitted.admits hne (slideAdmits n r (p + 1)) fun i hi => by
      obtain ⟨_, hin, _⟩ := mem_slideAdmits.mp hi
      exact position_lt_cap hcap hin
    have hslide : ((slideAdmits n r (p + 1)).reverse ++ window s.cfg.evict n r p).Perm
        (slideEvicts s.cfg.evict r (p + 1) ++ window s.cfg.evict n r (p + 1)) :=
      ((List.reverse_perm _).append_right _).trans (slideAdmits_append_window_perm s.cfg.evict hp)
    obtain ⟨w, hw, hevicted⟩ := (hadmitted.perm hslide).evicts hne (slideEvicts s.cfg.evict r (p + 1)) fun i hi => by
      obtain ⟨_, rfl⟩ := mem_slideEvicts.mp hi
      exact position_lt_cap hcap (by omega)
    rw [uopsLineToDivision_succ]
    exact ⟨w, runUops_append_next.mpr ⟨t, ht, runUops_append_next.mpr ⟨u, hu, runUops_append_next.mpr ⟨v, hv, hw⟩⟩⟩,
      hevicted⟩

end Line

/-- Settles O27: the state at the last WDIV, and the last emission. -/
theorem lineComputesTheWindowAverages : Obligations.LineComputesTheWindowAverages := by
  intro s ms md base stride n r hne hstride _ hr hn hcap
  obtain ⟨p, rfl⟩ : ∃ p, n = p + 1 := ⟨n - 1, by omega⟩
  obtain ⟨t, ht, hat⟩ := runUops_uopsLineToDivision (p := p) hne hstride hr (Nat.lt_succ_self p) hcap
  obtain ⟨u, hu, hdone⟩ := hat.emits hstride hr (Nat.lt_succ_self p) hcap
  refine ⟨u, ?run, hdone.outputs, hdone.others, hdone.registers⟩
  case run =>
    rw [runLine, uopsLine_eq_toDivision_append]
    exact runUops_append_next.mpr ⟨t, ht, hu⟩

end Sys2Proof.Machine

/-! PROOF. The host commands at the CMD port (45_apply_and_host_commands R190 to R193, R197, R198, R208): the fault gate that
all of them share, each command past the gate as a next state, APPLY's checks, and the words that are no command. -/

namespace Sys2Proof.Machine

/-! ### The commands as next states -/

/-- 45 R193: the fault gate stands before every command alike. -/
theorem exec_of_faulted {i : Instr} {s : State} (hi : i.isCommand = true) (h : s.faulted = true) :
    exec i s = .next s := by
  cases i with
  | setw n => exact execSetw_next.mpr (.inl ⟨h, rfl⟩)
  | seth n => exact execSeth_next.mpr (.inl ⟨h, rfl⟩)
  | setr n => exact execSetr_next.mpr (.inl ⟨h, rfl⟩)
  | apply => exact execApply_next.mpr (.inl ⟨h, rfl⟩)
  | ldp | stp | unpk | pack | wclr | wadd | wsub | wdiv => exact absurd hi Bool.false_ne_true

section NoFault

variable {s : State} (h : s.faulted = false)

include h

theorem exec_setw_of_not_faulted (n : BitVec 16) : exec (.setw n) s = .next (s.withWidth n) :=
  execSetw_next.mpr (.inr ⟨h, rfl⟩)

theorem exec_seth_of_not_faulted (n : BitVec 16) : exec (.seth n) s = .next (s.withHeight n) :=
  execSeth_next.mpr (.inr ⟨h, rfl⟩)

theorem exec_setr_of_not_faulted (n : BitVec 16) : exec (.setr n) s = .next (s.withRadius n) :=
  execSetr_next.mpr (.inr ⟨h, rfl⟩)

/-- 45 R197, check (1). -/
theorem exec_apply_of_degenerate (hsize : degenerate s = true) : exec .apply s = .next (s.withBusy false) :=
  execApply_next.mpr (.inr (.inl ⟨h, hsize, rfl⟩))

/-- 45 R197, check (2). -/
theorem exec_apply_of_badRadius (hsize : degenerate s = false) (hradius : badRadius s = true) :
    exec .apply s = .next (raise .invalidArgument 1#4 (s.withBusy true)) :=
  execApply_next.mpr (.inr (.inr (.inl ⟨h, hsize, hradius, rfl⟩)))

/-- 45 R197, check (3). -/
theorem exec_apply_of_tooLarge (hsize : degenerate s = false) (hradius : badRadius s = false)
    (hlarge : tooLarge s = true) : exec .apply s = .next (raise .invalidArgument 2#4 (s.withBusy true)) :=
  execApply_next.mpr (.inr (.inr (.inr (.inl ⟨h, hsize, hradius, hlarge, rfl⟩))))

end NoFault

/-! ### APPLY's checks as conditions on the parameters -/

section Checks

variable {s : State}

theorem degenerate_iff : degenerate s = true ↔ s.widthNat = 0 ∨ s.heightNat = 0 := decide_eq_true_iff

theorem degenerate_eq_false_of_pos (hw : 1 ≤ s.widthNat) (hh : 1 ≤ s.heightNat) : degenerate s = false :=
  decide_eq_false (by omega)

theorem badRadius_iff : badRadius s = true ↔ s.radiusNat < 1 ∨ 100 < s.radiusNat := decide_eq_true_iff

theorem badRadius_eq_false_of_legal (hlow : 1 ≤ s.radiusNat) (hhigh : s.radiusNat ≤ 100) : badRadius s = false :=
  decide_eq_false (by omega)

theorem tooLarge_iff : tooLarge s = true ↔ s.cfg.cap < s.widthNat * s.heightNat := decide_eq_true_iff

end Checks

/-! ### The obligations on execution -/

/-- 45 R198: what raises InvalidArgument has set BUSY before, and `raise` clears it; both write STATUS only. -/
theorem invalidArgument_changes_status_only {s : State} {n : BitVec 4}
    (h : exec .apply s = .next (raise .invalidArgument n (s.withBusy true))) :
    ∃ t, exec .apply s = .next t ∧
      t.busy = false ∧ t.faulted = true ∧ t.cause = 1#4 ∧ t.info = n ∧ t = { s with status := t.status } :=
  ⟨_, h, raise_busy .., raise_faulted .., raise_cause .., raise_info .., rfl⟩

/-- Settles O20: each check is reached once those before it have passed; the first leaves BUSY at the 0 it had. -/
theorem applyChecksInOrder : Obligations.ApplyChecksInOrder := by
  intro s ⟨hbusy, hfault⟩
  refine ⟨?size, ?radius, ?capacity⟩
  case size =>
    intro hsize
    rw [exec_apply_of_degenerate hfault (degenerate_iff.mpr hsize), ← hbusy, State.withBusy_self]
  case radius =>
    intro hw hh hradius
    exact invalidArgument_changes_status_only
      (exec_apply_of_badRadius hfault (degenerate_eq_false_of_pos hw hh) (badRadius_iff.mpr hradius))
  case capacity =>
    intro hw hh hlow hhigh hlarge
    exact invalidArgument_changes_status_only
      (exec_apply_of_tooLarge hfault (degenerate_eq_false_of_pos hw hh) (badRadius_eq_false_of_legal hlow hhigh)
        (tooLarge_iff.mpr hlarge))

/-- Settles O18: the fault gate, and each command past it. -/
theorem setCommandsWriteTheirRegister : Obligations.SetCommandsWriteTheirRegister := by
  intro n s
  constructor
  case left =>
    intro h
    exact ⟨exec_setw_of_not_faulted h n, exec_seth_of_not_faulted h n, exec_setr_of_not_faulted h n⟩
  case right =>
    intro h
    exact ⟨exec_of_faulted rfl h, exec_of_faulted rfl h, exec_of_faulted rfl h⟩

/-- 40 R113, R115: ESTR and every evaluation of it give a legal radius. -/
theorem estimate_mem_legal {f : Sigma → Nat} (hf : f = estr ∨ ∃ flt : Estimator, f = flt.eval) {x : Sigma}
    (hx : x.Valid) : 1 ≤ f x ∧ f x ≤ 100 := by
  rcases hf with rfl | ⟨flt, rfl⟩
  · exact ⟨one_le_estr x, estr_le_hundred x⟩
  · exact flt.range x hx

/-- Settles O60: an estimate fits the immediate, so RADIUS holds it whole, and it is legal. -/
theorem gblurSetsALegalRadius : Obligations.GblurSetsALegalRadius := by
  intro f x s hf hx hfault
  obtain ⟨hlow, hhigh⟩ := estimate_mem_legal hf hx
  have hradius : (s.withRadius (BitVec.ofNat 16 (f x))).radiusNat = f x :=
    (BitVec.toNat_ofNat ..).trans (Nat.mod_eq_of_lt (by omega))
  exact ⟨rfl, _, exec_setr_of_not_faulted hfault _, hradius,
    badRadius_eq_false_of_legal (hradius.symm ▸ hlow) (hradius.symm ▸ hhigh), rfl⟩

/-! ### The fields of a command word -/

section CommandWord

variable (c : BitVec 32)

theorem toNat_commandOpc : (commandOpc c).toNat = c.toNat / 2 ^ 28 := by
  rw [commandOpc, BitVec.extractLsb'_toNat, Nat.shiftRight_eq_div_pow]
  exact Nat.mod_eq_of_lt (Nat.div_lt_of_lt_mul c.isLt)

theorem toNat_commandRsv : (commandRsv c).toNat = c.toNat / 2 ^ 16 % 2 ^ 12 := by
  rw [commandRsv, BitVec.extractLsb'_toNat, Nat.shiftRight_eq_div_pow]

theorem toNat_commandImm : (commandImm c).toNat = c.toNat % 2 ^ 16 := by
  rw [commandImm, BitVec.extractLsb'_toNat, Nat.shiftRight_zero]

/-- 30 R90 in terms of the fields. -/
theorem illegalWord_iff_fields : IllegalWord c ↔
    (commandOpc c = 0x0#4 ∨ 0x5#4 ≤ commandOpc c) ∨ commandRsv c ≠ 0#12 ∨
      (commandOpc c = 0x4#4 ∧ commandImm c ≠ 0#16) := by
  rw [IllegalWord, ← toNat_commandOpc, ← toNat_commandRsv, ← toNat_commandImm]
  simp only [← BitVec.toNat_inj, BitVec.le_def, ne_eq, BitVec.toNat_ofNat, Nat.reducePow, Nat.reduceMod]

variable {c}

/-- 30 R83: a word whose reserved bits are 0 is its other two fields. -/
theorem commandWord_fields (h : commandRsv c = 0#12) : commandWord (commandOpc c) (commandImm c) = c := by
  have join {hi lo m n : Nat} (h : hi = lo + m) :
      c.extractLsb' hi n ++ c.extractLsb' lo m = c.extractLsb' lo (n + m) :=
    BitVec.extractLsb'_append_extractLsb'_eq_extractLsb' h
  calc commandWord (commandOpc c) (commandImm c)
    _ = c.extractLsb' 28 4 ++ c.extractLsb' 16 12 ++ c.extractLsb' 0 16 := by rw [commandWord, ← h]; rfl
    _ = c.extractLsb' 0 (4 + 12 + 16) := by rw [join (rfl : 28 = 16 + 12), join (rfl : 16 = 0 + 16)]
    _ = c := BitVec.extractLsb'_eq_self

/-- 30 R87, R90: the operation a word spells has that word. -/
theorem encode_of_decodeCommand {i : Instr} (h : decodeCommand c = .instr i) : encode i = .command c := by
  rw [decodeCommand] at h
  split_ifs at h with hrsv hsetw hseth hsetr happly himm
  all_goals
    obtain rfl := Decoded.instr.inj h
    rw [encode]
  · rw [← hsetw, commandWord_fields (not_not.mp hrsv)]
  · rw [← hseth, commandWord_fields (not_not.mp hrsv)]
  · rw [← hsetr, commandWord_fields (not_not.mp hrsv)]
  · rw [← happly, ← himm, commandWord_fields (not_not.mp hrsv)]

/-- 30 R90: the decoder rejects the illegal words and no others. -/
theorem decodeCommand_rejected_iff_illegalWord : (∃ r, decodeCommand c = .rejected r) ↔ IllegalWord c := by
  rw [illegalWord_iff_fields, decodeCommand]
  split_ifs with hrsv hsetw hseth hsetr happly himm
  · simp [hrsv]
  · simp [hrsv, hsetw]
  · simp [hrsv, hseth]
  · simp [hrsv, hsetr]
  · simp [hrsv, happly, himm]
  · simp [happly, himm]
  · exact iff_of_true ⟨_, rfl⟩ (.inl (by bv_omega))

theorem exists_encode_of_legalWord (h : ¬ IllegalWord c) :
    ∃ i, decodeCommand c = .instr i ∧ encode i = .command c := by
  cases hd : decodeCommand c with
  | instr i => exact ⟨i, rfl, encode_of_decodeCommand hd⟩
  | rejected r => exact absurd (decodeCommand_rejected_iff_illegalWord.mp ⟨r, hd⟩) h

end CommandWord

/-! ### The step that takes a command word -/

theorem step_idle_cmd {s : State} {c : BitVec 32} {rest : List HostMove} (hb : s.busy = false)
    (hm : NextCommand s c rest) : step s = acceptCommand c { s with moves := rest } := by
  rw [step_of_idle hb, stepIdle, hm]

theorem acceptCommand_of_instr {s : State} {c : BitVec 32} {i : Instr} (h : s.faulted = false)
    (hd : decodeCommand c = .instr i) : acceptCommand c s = exec i s := by
  simp [acceptCommand, h, hd]

/-- Settles O19: the three answers to a command word in their order, of which legality is the decoder's. -/
theorem commandIsExaminedInOrder : Obligations.CommandIsExaminedInOrder := by
  refine ⟨by decide, ?_⟩
  intro s c rest hb hm
  rw [step_idle_cmd hb hm]
  refine ⟨?discarded, ?illegal, ?executed⟩
  case discarded =>
    intro hfault
    exact acceptCommand_next.mpr (.inl ⟨hfault, rfl⟩)
  case illegal =>
    intro hfault hc
    obtain ⟨r, hr⟩ := decodeCommand_rejected_iff_illegalWord.mpr hc
    refine ⟨_, acceptCommand_next.mpr (.inr (.inl ⟨hfault, r, hr, rfl⟩)), raise_faulted .., raise_cause .., ?info,
      raise_busy .., rfl⟩
    case info => rw [raise_info, toNat_commandOpc]
  case executed =>
    intro hfault hc
    obtain ⟨i, hdecode, hencode⟩ := exists_encode_of_legalWord hc
    exact ⟨i, hencode, acceptCommand_of_instr hfault hdecode⟩

end Sys2Proof.Machine

/-! PROOF. The stream of an APPLY (45_apply_and_host_commands R201, R209): a pass is as many lines as the other dimension has
pixels, so what is counted in a line is counted that many times in the pass. -/

namespace Sys2Proof.Machine

/-! ### Counting over the two passes -/

/-- The stores of a stream, counted as its other micro-ops are. -/
theorem storeCount_eq_countP (is : List Instr) : storeCount is = is.countP fun i => (storedWord i).isSome :=
  List.length_filterMap_eq_countP

theorem storeCount_uopsLine (e : Evict) (ms md : Space) (base stride n r : Nat) :
    storeCount (uopsLine e ms md base stride n r) = n := by
  rw [storeCount, storedWords_uopsLine, List.length_map, List.length_range]

/-- 45 R201: an APPLY is `H` lines of `W` pixels and then `W` lines of `H` pixels. -/
theorem countP_uopsApply {q : Instr → Bool} {count : Nat → Nat} (e : Evict) (W H r : Nat)
    (hline : ∀ ms md base stride n, 1 ≤ n → (uopsLine e ms md base stride n r).countP q = count n)
    (hW : 1 ≤ W) (hH : 1 ≤ H) : (uopsApply e W H r).countP q = H * count W + W * count H := by
  rw [uopsApply, uopsHpass, uopsVpass, List.countP_append, countP_flatMap_const fun y => hline _ _ _ _ W hW,
    countP_flatMap_const fun x => hline _ _ _ _ H hH, List.length_range, List.length_range]

/-- 45 R209: a bound per pixel of a line is a bound per pixel in each of the two passes. -/
theorem two_passes_le {k a b W H : Nat} (ha : a ≤ k * W) (hb : b ≤ k * H) : H * a + W * b ≤ 2 * k * W * H :=
  calc H * a + W * b
    _ ≤ H * (k * W) + W * (k * H) := by gcongr
    _ = 2 * k * W * H := by ring

/-- Settles O23: the counts of a line, over the two passes; a line evicts fewer pixels than it has. -/
theorem applyStreamCost : Obligations.ApplyStreamCost := by
  intro e W H r hW hH hr
  have hlength : (uopsApply e W H r).length =
      H * (1 + 6 * W + 3 * evictions e W r) + W * (1 + 6 * H + 3 * evictions e H r) := by
    rw [← List.countP_true]
    refine countP_uopsApply (count := fun n => 1 + 6 * n + 3 * evictions e n r) e W H r ?_ hW hH
    intro ms md base stride n hn
    rw [List.countP_true, length_uopsLine e ms md base stride r hn]
  have hloads : loadCount (uopsApply e W H r) = H * (W + evictions e W r) + W * (H + evictions e H r) :=
    countP_uopsApply (count := fun n => n + evictions e n r) e W H r
      (fun ms md base stride _ hn => loadCount_uopsLine e ms md base stride r hn) hW hH
  have hstores : storeCount (uopsApply e W H r) = H * W + W * H := by
    rw [storeCount_eq_countP]
    refine countP_uopsApply (count := id) e W H r ?_ hW hH
    intro ms md base stride n _
    rw [← storeCount_eq_countP, storeCount_uopsLine, id]
  have hEW := evictions_le e W r
  have hEH := evictions_le e H r
  refine ⟨rfl, hlength, ?stores, ?loads, ?bound⟩
  case stores => rw [hstores]; ring
  case loads =>
    rw [hloads]
    exact two_passes_le (k := 2) (by omega) (by omega)
  case bound =>
    rw [hlength]
    exact two_passes_le (k := 9) (by omega) (by omega)

end Sys2Proof.Machine

/-! PROOF. The two formats of words (30_encoding R83 to R91): the fields of a word put together are the fields it was put
together from, and a word whose reserved bits are 0 is put together from its fields. -/

namespace Sys2Proof.Machine

/-! ### The fields of a word put together -/

section Fields

variable (opc : BitVec 4) (imm : BitVec 16) (m : BitVec 1) (i : BitVec 32)

@[simp] theorem commandOpc_commandWord : commandOpc (commandWord opc imm) = opc :=
  calc (opc ++ 0#12 ++ imm).extractLsb' 28 4
    _ = (opc ++ 0#12).extractLsb' 12 4 := BitVec.extractLsb'_append_eq_of_le (by decide)
    _ = opc := BitVec.extractLsb'_append_eq_left

@[simp] theorem commandRsv_commandWord : commandRsv (commandWord opc imm) = 0#12 :=
  calc (opc ++ 0#12 ++ imm).extractLsb' 16 12
    _ = (opc ++ 0#12).extractLsb' 0 12 := BitVec.extractLsb'_append_eq_of_le (by decide)
    _ = 0#12 := BitVec.extractLsb'_append_eq_right

@[simp] theorem commandImm_commandWord : commandImm (commandWord opc imm) = imm :=
  BitVec.extractLsb'_append_eq_right

@[simp] theorem bundleUop_bundleWord : bundleUop (bundleWord opc m i) = opc :=
  calc (opc ++ 0#3 ++ m ++ i).extractLsb' 36 4
    _ = (opc ++ 0#3 ++ m).extractLsb' 4 4 := BitVec.extractLsb'_append_eq_of_le (by decide)
    _ = (opc ++ 0#3).extractLsb' 3 4 := BitVec.extractLsb'_append_eq_of_le (by decide)
    _ = opc := BitVec.extractLsb'_append_eq_left

@[simp] theorem bundleRsv_bundleWord : bundleRsv (bundleWord opc m i) = 0#3 :=
  calc (opc ++ 0#3 ++ m ++ i).extractLsb' 33 3
    _ = (opc ++ 0#3 ++ m).extractLsb' 1 3 := BitVec.extractLsb'_append_eq_of_le (by decide)
    _ = (opc ++ 0#3).extractLsb' 0 3 := BitVec.extractLsb'_append_eq_of_le (by decide)
    _ = 0#3 := BitVec.extractLsb'_append_eq_right

@[simp] theorem bundleM_bundleWord : bundleM (bundleWord opc m i) = m :=
  calc (opc ++ 0#3 ++ m ++ i).extractLsb' 32 1
    _ = (opc ++ 0#3 ++ m).extractLsb' 0 1 := BitVec.extractLsb'_append_eq_of_le (by decide)
    _ = m := BitVec.extractLsb'_append_eq_right

@[simp] theorem bundleIdx_bundleWord : bundleIdx (bundleWord opc m i) = i :=
  BitVec.extractLsb'_append_eq_right

end Fields

/-! ### Spaces and their bit -/

@[simp] theorem spaceOfBit_bitOfSpace (m : Space) : spaceOfBit (bitOfSpace m) = m := by
  cases m <;> rfl

@[simp] theorem bitOfSpace_spaceOfBit (m : BitVec 1) : bitOfSpace (spaceOfBit m) = m := by
  rcases BitVec.eq_zero_or_eq_one m with rfl | rfl <;> rfl

/-! ### Decoding an operation's own word -/

/-- 30 R87, R88: an operation's word decodes to the operation, on its own path. -/
theorem decode_encode (i : Instr) : decode (encode i) = .instr i := by
  cases i with
  | setw n | seth n | setr n => simp [encode, decode, decodeCommand]
  | ldp m j | stp m j => simp [encode, decode, decodeBundle]
  | apply | unpk | pack | wclr | wadd | wsub | wdiv => decide

theorem encode_of_microOp {i : Instr} (hi : i.isCommand = false) : encode i = .bundle (bundleOf i) := by
  cases i with
  | setw | seth | setr | apply => exact absurd hi Bool.noConfusion
  | ldp | stp | unpk | pack | wclr | wadd | wsub | wdiv => rfl

/-- A micro-op's bundle decodes to the micro-op. -/
theorem decodeBundle_bundleOf {i : Instr} (hi : i.isCommand = false) : decodeBundle (bundleOf i) = .instr i := by
  have h := decode_encode i
  rwa [encode_of_microOp hi] at h

/-! ### The word of the operation decoded -/

/-- 30 R84: a bundle whose reserved bits are 0 is its other three fields. -/
theorem bundleWord_fields {u : BitVec 40} (h : bundleRsv u = 0#3) :
    bundleWord (bundleUop u) (bundleM u) (bundleIdx u) = u := by
  have join {hi lo m n : Nat} (h : hi = lo + m) :
      u.extractLsb' hi n ++ u.extractLsb' lo m = u.extractLsb' lo (n + m) :=
    BitVec.extractLsb'_append_extractLsb'_eq_extractLsb' h
  calc bundleWord (bundleUop u) (bundleM u) (bundleIdx u)
    _ = u.extractLsb' 36 4 ++ u.extractLsb' 33 3 ++ u.extractLsb' 32 1 ++ u.extractLsb' 0 32 := by
      rw [bundleWord, ← h]; rfl
    _ = u.extractLsb' 0 (4 + 3 + 1 + 32) := by
      rw [join (rfl : 36 = 33 + 3), join (rfl : 33 = 32 + 1), join (rfl : 32 = 0 + 32)]
    _ = u := BitVec.extractLsb'_eq_self

/-- 30 R84, R91: the bundle of a micro-op without operands is the micro-op's code and zeros. -/
theorem eq_bundleWord_of_operandless {u : BitVec 40} {uop : BitVec 4} {i j : Instr} (hrsv : bundleRsv u = 0#3)
    (huop : bundleUop u = uop) (h : operandless u j = .instr i) : j = i ∧ bundleWord uop 0#1 0#32 = u := by
  rw [operandless] at h
  split_ifs at h with hzero
  obtain ⟨hm, hidx⟩ := hzero
  refine ⟨Decoded.instr.inj h, ?_⟩
  calc bundleWord uop 0#1 0#32
    _ = bundleWord (bundleUop u) (bundleM u) (bundleIdx u) := by rw [huop, hm, hidx]
    _ = u := bundleWord_fields hrsv

/-- 30 R88, R91: the micro-op a bundle spells has that bundle. -/
theorem encode_of_decodeBundle {u : BitVec 40} {i : Instr} (h : decodeBundle u = .instr i) : encode i = .bundle u := by
  simp only [decodeBundle, ite_eq_iff (c := Decoded.instr i)] at h
  rcases h with ⟨-, h⟩ | ⟨hrsv, ⟨hldp, h⟩ | ⟨-, ⟨hstp, h⟩ | ⟨-, hrest⟩⟩⟩
  · exact absurd h Decoded.noConfusion
  · obtain rfl := Decoded.instr.inj h
    rw [encode, bitOfSpace_spaceOfBit, ← hldp, bundleWord_fields (not_not.mp hrsv)]
  · obtain rfl := Decoded.instr.inj h
    rw [encode, bitOfSpace_spaceOfBit, ← hstp, bundleWord_fields (not_not.mp hrsv)]
  · have hnullary {uop : BitVec 4} {j : Instr} (huop : bundleUop u = uop) (h : operandless u j = .instr i)
        (hj : encode j = .bundle (bundleWord uop 0#1 0#32)) : encode i = .bundle u := by
      obtain ⟨rfl, hu⟩ := eq_bundleWord_of_operandless (not_not.mp hrsv) huop h
      rw [hj, hu]
    rcases hrest with ⟨hunpk, h⟩ | ⟨-, ⟨hpack, h⟩ | ⟨-, ⟨hwclr, h⟩ | ⟨-, ⟨hwadd, h⟩ | ⟨-, ⟨hwsub, h⟩ | ⟨-, ⟨hwdiv, h⟩ |
      ⟨-, h⟩⟩⟩⟩⟩⟩
    · exact hnullary hunpk h rfl
    · exact hnullary hpack h rfl
    · exact hnullary hwclr h rfl
    · exact hnullary hwadd h rfl
    · exact hnullary hwsub h rfl
    · exact hnullary hwdiv h rfl
    · exact absurd h Decoded.noConfusion

/-- The sequencer's path carries micro-ops only, each as its own bundle. -/
theorem microOp_of_decodeBundle {u : BitVec 40} {i : Instr} (h : decodeBundle u = .instr i) :
    i.isCommand = false ∧ bundleOf i = u := by
  have hencode := encode_of_decodeBundle h
  constructor
  case left =>
    cases i with
    | setw | seth | setr | apply => exact absurd hencode Encoded.noConfusion
    | ldp | stp | unpk | pack | wclr | wadd | wsub | wdiv => rfl
  case right => rw [bundleOf, hencode]

/-! ### The obligations -/

/-- Settles O1: the fields of each operation's word are its opcode and its operands. -/
theorem decodeOfEncodeIsTheOperation : Obligations.DecodeOfEncodeIsTheOperation := decode_encode

/-- Settles O2: on either path the fields of the word are those of the operation decoded. -/
theorem encodeOfDecodeIsTheWord : Obligations.EncodeOfDecodeIsTheWord := by
  intro e i h
  cases e with
  | command c => exact encode_of_decodeCommand h
  | bundle u => exact encode_of_decodeBundle h

/-- Settles O3: the decoder's branches against the conditions of 30 R90. -/
theorem commandWordRejectedExactlyWhenIllegal : Obligations.CommandWordRejectedExactlyWhenIllegal :=
  fun _ => decodeCommand_rejected_iff_illegalWord

/-- Settles O4: eleven closed words, each decoded. -/
theorem sampleWordsDecodeAsWritten : Obligations.SampleWordsDecodeAsWritten := by
  unfold Obligations.SampleWordsDecodeAsWritten
  decide

end Sys2Proof.Machine

/-! PROOF. STATUS over the fault-raising operation (10_state R25 to R27, 60_exceptions R226): what a field's write leaves of the
reserved bits, and what `raise` makes of STATUS. -/

namespace Sys2Proof.Machine

/-! ### The reserved bits -/

/-- The write of a field that is not reserved keeps the reserved bits. -/
theorem insertField_reserved {w : Nat} (st : BitVec 32) (lo : Nat) (v : BitVec w) (h : lo + w ≤ 32)
    (hfield : ∀ k < w, statusMask.getLsbD (lo + k) = true) :
    insertField st lo v &&& ~~~statusMask = st &&& ~~~statusMask := by
  apply BitVec.eq_of_getLsbD_eq
  intro i hi
  rw [BitVec.getLsbD_and, BitVec.getLsbD_and, getLsbD_insertField st lo v h]
  split
  next hin =>
    have hmask := hfield (i - lo) (by omega)
    rw [Nat.add_sub_cancel' hin.1] at hmask
    simp [hmask]
  next => rfl

section Reserved

variable (st : BitVec 32)

@[simp] theorem statusWithBusy_reserved (b : Bool) :
    statusWithBusy st b &&& ~~~statusMask = st &&& ~~~statusMask :=
  insertField_reserved st 0 _ (by decide) (by decide)

@[simp] theorem statusWithFault_reserved (b : Bool) :
    statusWithFault st b &&& ~~~statusMask = st &&& ~~~statusMask :=
  insertField_reserved st 1 _ (by decide) (by decide)

@[simp] theorem statusWithCause_reserved (v : BitVec 4) :
    statusWithCause st v &&& ~~~statusMask = st &&& ~~~statusMask :=
  insertField_reserved st 4 _ (by decide) (by decide)

@[simp] theorem statusWithInfo_reserved (v : BitVec 4) :
    statusWithInfo st v &&& ~~~statusMask = st &&& ~~~statusMask :=
  insertField_reserved st 8 _ (by decide) (by decide)

end Reserved

/-! ### Raising a fault -/

@[simp] theorem raise_reserved (f : Cause) (n : BitVec 4) (s : State) :
    (raise f n s).status &&& ~~~statusMask = s.status &&& ~~~statusMask := by
  simp [raise]

/-- A fault clears BUSY, so it does not show whether BUSY was set before. -/
theorem raise_withBusy (f : Cause) (n : BitVec 4) (s : State) (b : Bool) : raise f n (s.withBusy b) = raise f n s := by
  have hstatus : (raise f n (s.withBusy b)).status = (raise f n s).status := by
    apply BitVec.eq_of_getLsbD_eq
    intro i hi
    simp only [raise, State.withStatus_status, State.withBusy_status, statusWithBusy, statusWithInfo,
      statusWithCause, statusWithFault, getLsbD_insertField _ 0 _ (by decide : 0 + 1 ≤ 32),
      getLsbD_insertField _ 1 _ (by decide : 1 + 1 ≤ 32), getLsbD_insertField _ 4 _ (by decide : 4 + 4 ≤ 32),
      getLsbD_insertField _ 8 _ (by decide : 8 + 4 ≤ 32)]
    by_cases h0 : 0 ≤ i ∧ i < 0 + 1
    · rw [if_pos h0, if_pos h0]
    · simp only [if_neg h0]
  calc raise f n (s.withBusy b)
    _ = { s with status := (raise f n (s.withBusy b)).status } := rfl
    _ = { s with status := (raise f n s).status } := by rw [hstatus]
    _ = raise f n s := rfl

/-- Settles O43: the fields by the laws of STATUS, the reserved bits by those of a field's write. -/
theorem raiseWritesStatusOnly : Obligations.RaiseWritesStatusOnly :=
  fun f n s => ⟨raise_faulted f n s, raise_cause f n s, raise_info f n s, raise_busy f n s, raise_reserved f n s, rfl⟩

/-! ### STATUS as the invariant has it -/

theorem statusOk_raise (f : Cause) (n : BitVec 4) {s : State} (h : s.status &&& ~~~statusMask = 0#32) :
    StatusOk (raise f n s).status := by
  have hfault : statusFault (raise f n s).status = true := raise_faulted f n s
  have hcause : statusCause (raise f n s).status = f.code := raise_cause f n s
  have hbusy : statusBusy (raise f n s).status = false := raise_busy f n s
  have hcode : f.code ≤ 3#4 ∧ f.code ≠ 0#4 := by cases f <;> decide
  refine ⟨(raise_reserved f n s).trans h, hcause ▸ hcode.1, ?nofault, fun _ => hcause ▸ hcode.2, ?notboth⟩
  case nofault => rw [hfault]; exact Bool.noConfusion
  case notboth => rw [hbusy]; exact fun hboth => Bool.noConfusion hboth.1

theorem StatusOk.withBusy {st : BitVec 32} (h : StatusOk st) {b : Bool} (hb : b = true → statusFault st = false) :
    StatusOk (statusWithBusy st b) := by
  obtain ⟨hreserved, hcause, hnofault, hfault, -⟩ := h
  refine ⟨(statusWithBusy_reserved st b).trans hreserved, ?_, ?_, ?_, ?notboth⟩
  case notboth =>
    rw [statusBusy_withBusy, statusFault_withBusy]
    rintro ⟨hbusy, hf⟩
    rw [hb hbusy] at hf
    exact Bool.noConfusion hf
  all_goals simpa only [statusCause_withBusy, statusFault_withBusy, statusInfo_withBusy]

end Sys2Proof.Machine

/-! PROOF. What a step can do: one predicate for the effect of a micro-op, one for that of a command word, one for that of a
step. Statements over all steps go through their cases. -/

namespace Sys2Proof.Machine

/-! ### Words of a command written out in hexadecimal -/

theorem commandWord_setw (n : BitVec 16) : commandWord 0x1#4 n = 0x1000#16 ++ n := rfl

theorem commandWord_seth (n : BitVec 16) : commandWord 0x2#4 n = 0x2000#16 ++ n := rfl

theorem commandWord_setr (n : BitVec 16) : commandWord 0x3#4 n = 0x3000#16 ++ n := rfl

theorem commandWord_apply : commandWord 0x4#4 0#16 = 0x40000000#32 := by decide

/-! ### The effect of a micro-op -/

/-- What the micro-op at UPC makes of `s`, before the APPLY is found to go on or to have ended. -/
inductive MicroOpEffect (s : State) : State → Prop
  /-- The latches, the window and UPC change (or nothing does, where the stream is at its end). -/
  | datapath {t : State} (h : SameButDatapath s t) : MicroOpEffect s t
  /-- STP stores PX. -/
  | store {m : Space} {i : BitVec 32} (hfetch : fetchBundle s = some (bundleOf (.stp m i)))
      (hcap : i.toNat < s.cfg.cap) : MicroOpEffect s (s.advance.putWord m i.toNat s.px)
  /-- WDIV raises DivideByZero. -/
  | divideByZero : MicroOpEffect s (raise .divideByZero 0#4 s)

theorem exec_effect_of_microOp {i : Instr} {s t : State} (hi : i.isCommand = false)
    (hfetch : fetchBundle s = some (bundleOf i)) (h : exec i s = .next t) : MicroOpEffect s t := by
  have same := SameButDatapath.refl s
  cases i with
  | setw | seth | setr | apply => exact absurd hi Bool.noConfusion
  | ldp m j =>
    obtain ⟨-, rfl⟩ := exec_ldp_next.mp h
    exact .datapath (same.withPx _).advance
  | stp m j =>
    obtain ⟨hcap, rfl⟩ := exec_stp_next.mp h
    exact .store hfetch hcap
  | unpk => exact exec_unpk_next.mp h ▸ .datapath (same.withCh _).advance
  | pack => exact exec_pack_next.mp h ▸ .datapath (same.withPx _).advance
  | wclr => exact exec_wclr_next.mp h ▸ .datapath (same.withWindow ..).advance
  | wadd => exact exec_wadd_next.mp h ▸ .datapath (same.withWindow ..).advance
  | wsub => exact exec_wsub_next.mp h ▸ .datapath (same.withWindow ..).advance
  | wdiv =>
    by_cases hcnt : s.cnt = 0#32
    · exact (exec_wdiv_of_cnt_zero hcnt).mp h ▸ .divideByZero
    · exact (exec_wdiv_of_cnt_ne_zero hcnt).mp h ▸ .datapath (same.withQ _).advance

theorem stepMicroOp_effect {s t : State} (h : stepMicroOp s = .next t) : ∃ u, MicroOpEffect s u ∧ t = retire u := by
  rcases stepMicroOp_next.mp h with ⟨-, ht⟩ | ⟨w, i, u, hfetch, hdecode, hexec, ht⟩
  · exact ⟨s, .datapath rfl, ht⟩
  · obtain ⟨hi, rfl⟩ := microOp_of_decodeBundle hdecode
    exact ⟨u, exec_effect_of_microOp hi hfetch hexec, ht⟩

/-! ### The effect of a command word -/

/-- What the command word `c` makes of an idle block. -/
inductive CommandEffect (c : BitVec 32) (s : State) : State → Prop
  /-- Discarded while FAULT is 1, or an APPLY of an empty image. -/
  | none : CommandEffect c s s
  | setw {n : BitVec 16} (hfault : s.faulted = false) (hc : c = 0x1000#16 ++ n) : CommandEffect c s (s.withWidth n)
  | seth {n : BitVec 16} (hfault : s.faulted = false) (hc : c = 0x2000#16 ++ n) : CommandEffect c s (s.withHeight n)
  | setr {n : BitVec 16} (hfault : s.faulted = false) (hc : c = 0x3000#16 ++ n) : CommandEffect c s (s.withRadius n)
  /-- IllegalCommand, or one of APPLY's checks. -/
  | raise {f : Cause} {n : BitVec 4} (hfault : s.faulted = false) : CommandEffect c s (raise f n s)
  | start (hfault : s.faulted = false) (hc : c = 0x40000000#32) (hlegal : ParametersLegal s) :
      CommandEffect c s (startApply s)

/-- The three checks of 45 R197, all passed. -/
theorem parametersLegal_of_checks {s : State} (hsize : degenerate s = false) (hradius : badRadius s = false)
    (hlarge : tooLarge s = false) : ParametersLegal s := by
  rw [degenerate, decide_eq_false_iff_not] at hsize
  rw [badRadius, decide_eq_false_iff_not] at hradius
  rw [tooLarge, decide_eq_false_iff_not] at hlarge
  omega

theorem execApply_effect {s t : State} (hb : s.busy = false) (h : execApply s = .next t) :
    CommandEffect 0x40000000#32 s t := by
  rcases execApply_next.mp h with ⟨-, rfl⟩ | ⟨-, -, rfl⟩ | ⟨hf, -, -, rfl⟩ | ⟨hf, -, -, -, rfl⟩ |
    ⟨hf, hsize, hradius, hlarge, rfl⟩
  · exact .none
  · rw [← hb, State.withBusy_self]
    exact .none
  · rw [raise_withBusy]
    exact .raise hf
  · rw [raise_withBusy]
    exact .raise hf
  · exact .start hf rfl (parametersLegal_of_checks hsize hradius hlarge)

theorem acceptCommand_effect {c : BitVec 32} {s t : State} (hb : s.busy = false) (h : acceptCommand c s = .next t) :
    CommandEffect c s t := by
  rcases acceptCommand_next.mp h with ⟨-, rfl⟩ | ⟨hf, r, -, rfl⟩ | ⟨hf, i, hdecode, hexec⟩
  · exact .none
  · exact .raise hf
  · have hencode := encode_of_decodeCommand hdecode
    cases i with
    | setw n =>
      obtain rfl := Host.Outcome.next.inj ((exec_setw_of_not_faulted hf n).symm.trans hexec)
      exact .setw hf ((Encoded.command.inj hencode).symm.trans (commandWord_setw n))
    | seth n =>
      obtain rfl := Host.Outcome.next.inj ((exec_seth_of_not_faulted hf n).symm.trans hexec)
      exact .seth hf ((Encoded.command.inj hencode).symm.trans (commandWord_seth n))
    | setr n =>
      obtain rfl := Host.Outcome.next.inj ((exec_setr_of_not_faulted hf n).symm.trans hexec)
      exact .setr hf ((Encoded.command.inj hencode).symm.trans (commandWord_setr n))
    | apply =>
      obtain rfl : c = 0x40000000#32 := (Encoded.command.inj hencode).symm.trans commandWord_apply
      exact execApply_effect hb hexec
    | ldp | stp | unpk | pack | wclr | wadd | wsub | wdiv => exact absurd hencode Encoded.noConfusion

/-! ### The effect of a step -/

/-- What a step makes of an idle block. -/
inductive IdleEffect (s : State) : State → Prop
  | await (hm : s.moves = []) : IdleEffect s s
  | command {c : BitVec 32} {rest : List HostMove} {t : State} (hm : NextCommand s c rest)
      (h : CommandEffect c { s with moves := rest } t) : IdleEffect s t
  | pixRead {i : BitVec 32} {rest : List HostMove} (hm : s.moves = .pixRead i :: rest) :
      IdleEffect s { s with moves := rest, reply := some (s.wordAt .buf i.toNat) }
  | pixWrite {i v : BitVec 32} {rest : List HostMove} (hm : s.moves = .pixWrite i v :: rest)
      (hcap : i.toNat < s.cfg.cap) : IdleEffect s ({ s with moves := rest }.putWord .buf i.toNat v)
  | regRead {n : BitVec 32} {rest : List HostMove} (hm : s.moves = .regRead n :: rest) :
      IdleEffect s { s with moves := rest, reply := some (regRead s n) }
  | reset {rest : List HostMove} (hm : s.moves = .reset :: rest) :
      IdleEffect s (resetEvent { s with moves := rest })

/-- What a step makes of a block while an APPLY runs. -/
inductive BusyEffect (s : State) : State → Prop
  | microOp {rest : List BusyMove} {t : State} (h : MicroOpEffect { s with meanwhile := rest } t) :
      BusyEffect s (retire t)
  | regRead {n : BitVec 32} {rest : List BusyMove} (hm : s.meanwhile = .regRead n :: rest) :
      BusyEffect s { s with meanwhile := rest, reply := some (regRead s n) }
  | reset {rest : List BusyMove} (hm : s.meanwhile = .reset :: rest) :
      BusyEffect s (resetEvent { s with meanwhile := rest })

theorem step_idle_effect {s t : State} (hb : s.busy = false) (h : step s = .next t) : IdleEffect s t := by
  rw [step_of_idle hb] at h
  rcases stepIdle_next.mp h with ⟨hm, rfl⟩ | ⟨c, rest, hm, h⟩ | ⟨i, rest, hm, h⟩ | ⟨i, v, rest, hm, h⟩ |
    ⟨n, rest, hm, rfl⟩ | ⟨rest, hm, rfl⟩
  · exact .await hm
  · exact .command hm (acceptCommand_effect hb h)
  · obtain ⟨-, rfl⟩ := hostRead_next.mp h
    exact .pixRead hm
  · obtain ⟨hcap, rfl⟩ := hostWrite_next.mp h
    exact .pixWrite hm (holds_iff_lt_cap.mp hcap)
  · exact .regRead hm
  · exact .reset hm

theorem step_busy_effect {s t : State} (hb : s.busy = true) (h : step s = .next t) : BusyEffect s t := by
  rw [step_of_busy hb] at h
  rcases stepBusy_next.mp h with ⟨-, h⟩ | ⟨rest, -, h⟩ | ⟨n, rest, hm, rfl⟩ | ⟨rest, hm, rfl⟩
  · obtain ⟨u, hu, rfl⟩ := stepMicroOp_effect h
    exact .microOp (rest := s.meanwhile) hu
  · obtain ⟨u, hu, rfl⟩ := stepMicroOp_effect h
    exact .microOp hu
  · exact .regRead hm
  · exact .reset hm

/-! ### What a micro-op leaves unchanged -/

/-- A micro-op writes STATUS, the datapath and the two memories only. -/
theorem MicroOpEffect.frame {s t : State} (h : MicroOpEffect s t) :
    t = { s with
      status := t.status, px := t.px, ch := t.ch, q := t.q, acc := t.acc, cnt := t.cnt, upc := t.upc, buf := t.buf,
      scr := t.scr } := by
  cases h with
  | datapath h => rw [h]
  | store => rw [State.putWord_eq_with_spaces]; rfl
  | divideByZero => rfl

/-- A micro-op keeps every word of memory but the one it stores PX to. -/
theorem MicroOpEffect.wordAt {s t : State} (h : MicroOpEffect s t) (m : Space) (i : Nat) :
    t.wordAt m i = s.wordAt m i ∨
      ∃ j, fetchBundle s = some (bundleOf (.stp m j)) ∧ j.toNat = i ∧ t.wordAt m i = s.px := by
  cases h with
  | datapath h => exact .inl (h.wordAt_eq m i)
  | @store m' j hfetch hcap =>
    by_cases hsame : m = m' ∧ i = j.toNat
    · obtain ⟨rfl, rfl⟩ := hsame
      exact .inr ⟨j, hfetch, rfl, State.wordAt_putWord_same ..⟩
    · exact .inl ((State.wordAt_putWord_other _ _ hsame).trans (State.wordAt_advance ..))
  | divideByZero => exact .inl (State.wordAt_congr rfl rfl rfl rfl m i)

/-- What follows a micro-op writes STATUS and SCR only. -/
theorem retire_frame (s : State) :
    retire s = { s with status := (retire s).status, scr := (retire s).scr, scrDraw := (retire s).scrDraw } := by
  rcases retire_cases s with ⟨-, -, h⟩ | ⟨-, h⟩
  · rw [h]
  · rw [h]
    rfl

/-- An APPLY that goes on is left as the micro-op left it. -/
theorem retire_of_busy {s : State} (h : (retire s).busy = true) : retire s = s := by
  rcases retire_cases s with ⟨-, -, hretire⟩ | ⟨-, hretire⟩
  · exact hretire
  · rw [hretire, endApply_busy] at h
    exact Bool.noConfusion h

theorem retire_of_idle {s : State} (h : (retire s).busy = false) : retire s = endApply s := by
  rcases retire_cases s with ⟨hbusy, -, hretire⟩ | ⟨-, hretire⟩
  · rw [hretire, hbusy] at h
    exact Bool.noConfusion h
  · exact hretire

theorem wordAt_buf_retire (s : State) (i : Nat) : (retire s).wordAt .buf i = s.wordAt .buf i := by
  rw [retire_frame]
  rfl

end Sys2Proof.Machine

/-! PROOF. What every step keeps (10_state R21 to R27, R35, R36, 20_memory R62, 60_exceptions R227): the frames over all steps
and the invariant, each by the cases of the step's effect. -/

namespace Sys2Proof.Machine

/-! ### The frames over all steps -/

/-- Settles O44: past the fault gate a command does nothing, and no other move of the host but reset reaches STATUS or a
register. -/
theorem faultStaysUntilReset : Obligations.FaultStaysUntilReset := by
  intro s t hb hf h
  cases step_idle_effect hb h with
  | command hm hc =>
    cases hc with
    | none => exact .inr rfl
    | setw hfault | seth hfault | setr hfault | raise hfault | start hfault =>
      exact absurd (hf.symm.trans hfault) Bool.noConfusion
  | reset hm => exact .inl ⟨_, hm⟩
  | await | pixRead | pixWrite | regRead => exact .inr rfl

/-- Settles O51: the end of the APPLY discards SCR and keeps BUF, so BUF differs by the micro-op's own store at most. -/
theorem scratchIsUnspecifiedWhenAnApplyEnds : Obligations.ScratchIsUnspecifiedWhenAnApplyEnds := by
  intro s t hb h hidle
  cases step_busy_effect hb h with
  | @microOp rest u hu =>
    refine ⟨fun i => ?scratch, .inr fun i => ?buffer⟩
    case scratch =>
      rw [retire_of_idle hidle, hu.frame]
      rfl
    case buffer =>
      rw [wordAt_buf_retire]
      exact hu.wordAt .buf i
  | regRead => exact absurd (hb.symm.trans hidle) Bool.noConfusion
  | reset hm => exact ⟨fun _ => rfl, .inl ⟨_, hm⟩⟩

/-- Settles O52: neither a micro-op nor what follows it writes the host's moves, the parameters or the stream. -/
theorem hostWaitsForTheBlock : Obligations.HostWaitsForTheBlock := by
  constructor
  case left =>
    intro s t hb hnoreset h
    cases step_busy_effect hb h with
    | @microOp rest u hu =>
      rw [retire_frame, hu.frame]
      exact ⟨rfl, rfl, rfl, rfl, rfl⟩
    | regRead => exact ⟨rfl, rfl, rfl, rfl, rfl⟩
    | reset hm => exact absurd hm (hnoreset _)
  case right =>
    intro s hb hm
    exact (step_of_idle hb).trans (stepIdle_next.mpr (.inl ⟨hm, rfl⟩))

/-- Settles O53: of all effects only the three SET commands and reset write a parameter. -/
theorem parameterRegistersChangeByTheirCommandOnly : Obligations.ParameterRegistersChangeByTheirCommandOnly := by
  intro s t h
  cases hb : s.busy with
  | false =>
    cases step_idle_effect hb h with
    | @command c rest _ hm hc =>
      cases hc with
      | setw _ hword => exact .inr ⟨.inr ⟨rest, rfl, hword ▸ hm⟩, .inl rfl, .inl rfl⟩
      | seth _ hword => exact .inr ⟨.inl rfl, .inr ⟨rest, rfl, hword ▸ hm⟩, .inl rfl⟩
      | setr _ hword => exact .inr ⟨.inl rfl, .inl rfl, .inr ⟨rest, rfl, hword ▸ hm⟩⟩
      | none | raise | start => exact .inr ⟨.inl rfl, .inl rfl, .inl rfl⟩
    | reset hm => exact .inl (.inl ⟨_, rfl, hm⟩)
    | await | pixRead | pixWrite | regRead => exact .inr ⟨.inl rfl, .inl rfl, .inl rfl⟩
  | true =>
    cases step_busy_effect hb h with
    | @microOp rest u hu =>
      rw [retire_frame, hu.frame]
      exact .inr ⟨.inl rfl, .inl rfl, .inl rfl⟩
    | regRead => exact .inr ⟨.inl rfl, .inl rfl, .inl rfl⟩
    | reset hm => exact .inl (.inr ⟨_, rfl, hm⟩)

/-- Settles O54: of all effects only the PIX port's write, STP, the start and the end of an APPLY, and reset change what a
word reads as. -/
theorem memoryChangesByStoresOnly : Obligations.MemoryChangesByStoresOnly := by
  intro s t h
  cases hb : s.busy with
  | false =>
    cases step_idle_effect hb h with
    | @command c rest _ hm hc =>
      refine .inr ⟨fun i => .inl ?buffer, fun i => ?scratch⟩
      case buffer => cases hc <;> rfl
      case scratch =>
        cases hc with
        | start _ hword => exact .inr (.inl ⟨rest, rfl, hword ▸ hm⟩)
        | none | setw | seth | setr | raise => exact .inl rfl
    | @pixWrite j v rest hm hcap =>
      refine .inr ⟨fun i => ?buffer, fun i => .inl rfl⟩
      case buffer =>
        by_cases hi : i = j.toNat
        · obtain rfl := hi
          exact .inr (.inl ⟨j, v, rest, rfl, hm, rfl, State.wordAt_putWord_same ..⟩)
        · exact .inl (State.wordAt_putWord_other _ _ fun hsame => hi hsame.2)
    | reset hm => exact .inl (.inl ⟨_, rfl, hm⟩)
    | await | pixRead | regRead => exact .inr ⟨fun _ => .inl rfl, fun _ => .inl rfl⟩
  | true =>
    cases step_busy_effect hb h with
    | @microOp rest u hu =>
      refine .inr ⟨fun i => ?buffer, fun i => ?scratch⟩
      case buffer =>
        rw [wordAt_buf_retire]
        exact (hu.wordAt .buf i).imp_right fun ⟨j, hj⟩ => .inr ⟨j, rfl, hj⟩
      case scratch =>
        cases hbusy : (retire u).busy with
        | false => exact .inr (.inr (.inl ⟨rfl, rfl⟩))
        | true =>
          rw [retire_of_busy hbusy]
          exact (hu.wordAt .scr i).imp_right fun ⟨j, hj⟩ => .inr (.inr ⟨j, rfl, hj⟩)
    | regRead => exact .inr ⟨fun _ => .inl rfl, fun _ => .inl rfl⟩
    | reset hm => exact .inl (.inr ⟨_, rfl, hm⟩)

/-! ### The invariant -/

theorem MemoryOk.nil (c : Config) : MemoryOk c [] := ⟨rfl, fun _ h => absurd h List.not_mem_nil⟩

theorem MemoryOk.set {c : Config} {m : Memory} (h : MemoryOk c m) {i : Nat} (hi : i < c.cap) (v : BitVec 32) :
    MemoryOk c (Memory.set m i v) := by
  obtain ⟨hwf, hcells⟩ := h
  refine ⟨Memory.wf_set i v hwf, fun cell hcell => ?_⟩
  rcases Memory.mem_set hcell with rfl | hold
  · exact hi
  · exact hcells cell hold

theorem memoryOk_putWord {s : State} (hbuf : MemoryOk s.cfg s.buf) (hscr : MemoryOk s.cfg s.scr) (m : Space) {i : Nat}
    (hi : i < s.cfg.cap) (v : BitVec 32) :
    MemoryOk s.cfg (s.putWord m i v).buf ∧ MemoryOk s.cfg (s.putWord m i v).scr := by
  cases m with
  | buf => exact ⟨hbuf.set hi v, hscr⟩
  | scr => exact ⟨hbuf, hscr.set hi v⟩

/-- An idle block owes nothing to the sequencer. -/
theorem inv_of_idle {s : State} (hidle : s.busy = false) (hstatus : StatusOk s.status) (hbuf : MemoryOk s.cfg s.buf)
    (hscr : MemoryOk s.cfg s.scr) : Inv s :=
  ⟨hstatus, hbuf, hscr, fun hbusy => absurd (hbusy.symm.trans hidle) Bool.noConfusion⟩

/-- Nothing is set and nothing is written after reset. -/
theorem inv_resetWith (c : Config) : Inv (State.resetWith c) :=
  inv_of_idle (by decide : statusBusy 0#32 = false) (by decide : StatusOk 0#32) (.nil c) (.nil c)

/-- Settles O55: the reset state of every configuration, of which the machine's own is one. -/
theorem invariantHoldsAfterReset : Obligations.InvariantHoldsAfterReset := ⟨inv_resetWith, inv_resetWith _⟩

theorem inv_resetEvent (s : State) : Inv (resetEvent s) := inv_resetWith s.cfg

/-- 45 R202: the stream of an image with a row is not empty. -/
theorem bundlesApply_ne_nil (e : Evict) (W : Nat) {H : Nat} (r : Nat) (hH : 1 ≤ H) : bundlesApply e W H r ≠ [] := by
  obtain ⟨h, rfl⟩ : ∃ h, H = h + 1 := ⟨H - 1, by omega⟩
  simp [bundlesApply, uopsApply, uopsHpass, uopsLine, List.range_succ_eq_map]

/-- The accepted APPLY has legal parameters, and its stream begins. -/
theorem inv_startApply {s : State} (hfault : s.faulted = false) (hlegal : ParametersLegal s) (h : Inv s) :
    Inv (startApply s) := by
  obtain ⟨hstatus, hbuf, -, -⟩ := h
  have ⟨_, hheight, _⟩ := hlegal
  have hne := bundlesApply_ne_nil s.cfg.evict s.widthNat s.radiusNat hheight
  exact ⟨hstatus.withBusy fun _ => hfault, hbuf, .nil _, fun _ => ⟨hlegal, rfl, List.length_pos_iff.mpr hne⟩⟩

theorem inv_of_commandEffect {c : BitVec 32} {s t : State} (hb : s.busy = false) (h : Inv s)
    (hc : CommandEffect c s t) : Inv t := by
  obtain ⟨hstatus, hbuf, hscr, -⟩ := id h
  cases hc with
  | none => exact h
  | setw | seth | setr => exact inv_of_idle hb hstatus hbuf hscr
  | raise => exact inv_of_idle (raise_busy ..) (statusOk_raise _ _ hstatus.1) hbuf hscr
  | start hfault _ hlegal => exact inv_startApply hfault hlegal h

theorem inv_of_idleEffect {s t : State} (hb : s.busy = false) (h : Inv s) (ht : IdleEffect s t) : Inv t := by
  obtain ⟨hstatus, hbuf, hscr, -⟩ := id h
  cases ht with
  | await => exact h
  | @command c rest _ _ hc => exact inv_of_commandEffect (s := { s with moves := rest }) hb h hc
  | pixWrite _ hcap => exact inv_of_idle hb hstatus (hbuf.set hcap _) hscr
  | pixRead | regRead => exact inv_of_idle hb hstatus hbuf hscr
  | reset => exact inv_resetEvent _

/-- What follows a micro-op restores what a micro-op may leave open: UPC past the stream's end, or a fault in mid-stream. -/
theorem inv_retire {s : State} (hstatus : StatusOk s.status) (hbuf : MemoryOk s.cfg s.buf) (hscr : MemoryOk s.cfg s.scr)
    (hstream : ParametersLegal s ∧ s.stream = bundlesApply s.cfg.evict s.widthNat s.heightNat s.radiusNat) :
    Inv (retire s) := by
  rcases retire_cases s with ⟨-, hupc, h⟩ | ⟨-, h⟩
  · rw [h]
    exact ⟨hstatus, hbuf, hscr, fun _ => ⟨hstream.1, hstream.2, hupc⟩⟩
  · rw [h]
    exact inv_of_idle (endApply_busy s) (hstatus.withBusy Bool.noConfusion) hbuf (.nil _)

theorem inv_retire_of_microOpEffect {s t : State} (hb : s.busy = true) (h : Inv s) (ht : MicroOpEffect s t) :
    Inv (retire t) := by
  obtain ⟨hstatus, hbuf, hscr, hseq⟩ := h
  obtain ⟨hlegal, hstream, -⟩ := hseq hb
  have hkept : ParametersLegal t ∧ t.stream = bundlesApply t.cfg.evict t.widthNat t.heightNat t.radiusNat := by
    rw [ht.frame]
    exact ⟨hlegal, hstream⟩
  cases ht with
  | datapath hsame =>
    rw [hsame] at hkept ⊢
    exact inv_retire hstatus hbuf hscr hkept
  | @store m i _ hcap =>
    obtain ⟨hbuf', hscr'⟩ := memoryOk_putWord (s := s.advance) hbuf hscr m hcap s.px
    exact inv_retire (by rwa [State.putWord_status]) (by rwa [State.putWord_cfg]) (by rwa [State.putWord_cfg]) hkept
  | divideByZero => exact inv_retire (statusOk_raise _ _ hstatus.1) hbuf hscr hkept

/-- Settles O56: the effects of an idle block's step, and those of a step while an APPLY runs. -/
theorem invariantKeptByEveryStep : Obligations.InvariantKeptByEveryStep := by
  intro s t h hstep
  cases hb : s.busy with
  | false => exact inv_of_idleEffect hb h (step_idle_effect hb hstep)
  | true =>
    cases step_busy_effect hb hstep with
    | @microOp rest u hu => exact inv_retire_of_microOpEffect (s := { s with meanwhile := rest }) hb h hu
    | regRead => exact h
    | reset => exact inv_resetEvent _

end Sys2Proof.Machine

/-! PROOF. Single steps and short runs of the whole machine: the command words at the CMD port, the PIX port, reset, the start
of an APPLY, a micro-op as a step, and the stops. -/

namespace Sys2Proof.Machine

/-! ### Runs of the machine -/

/-- A run of one step more, of any machine. -/
theorem core_run_succ_next (M : Host.Core) {k : Nat} {s t : M.State} :
    M.run (k + 1) s = .next t ↔ ∃ u, M.step s = .next u ∧ M.run k u = .next t := by
  rw [Host.Core.run]
  cases M.step s <;> simp

theorem run_succ_next {k : Nat} {s t : State} :
    Host.Core.run Sys2Proof.core (k + 1) s = .next t ↔
      ∃ u, step s = .next u ∧ Host.Core.run Sys2Proof.core k u = .next t := core_run_succ_next Sys2Proof.core

/-- A run of the sum of two numbers of steps is one run and then the other. -/
theorem run_add_next {j k : Nat} {s t u : State} (hj : Host.Core.run Sys2Proof.core j s = .next t)
    (hk : Host.Core.run Sys2Proof.core k t = .next u) : Host.Core.run Sys2Proof.core (j + k) s = .next u := by
  induction j generalizing s with
  | zero =>
    obtain rfl := Host.Outcome.next.inj hj
    rwa [Nat.zero_add]
  | succ j ih =>
    obtain ⟨v, hstep, hrun⟩ := run_succ_next.mp hj
    rw [Nat.succ_add]
    exact run_succ_next.mpr ⟨v, hstep, ih hrun⟩

/-! ### Command words at the CMD port -/

/-- A ready block executes the operation whose word the host writes. -/
theorem step_command_of_ready {s : State} {c : BitVec 32} {rest : List HostMove} {i : Instr} (hready : Ready s)
    (hm : NextCommand s c rest) (hencode : encode i = .command c) : step s = exec i { s with moves := rest } := by
  have hdecode : decodeCommand c = .instr i := by
    have h := decode_encode i
    rwa [hencode] at h
  rw [step_idle_cmd hready.1 hm]
  exact acceptCommand_of_instr hready.2 hdecode

/-- A faulted block discards whatever the host writes. -/
theorem step_command_of_faulted {s : State} {c : BitVec 32} {rest : List HostMove} (hb : s.busy = false)
    (hf : s.faulted = true) (hm : NextCommand s c rest) : step s = .next { s with moves := rest } := by
  rw [step_idle_cmd hb hm]
  exact acceptCommand_next.mpr (.inl ⟨hf, rfl⟩)

/-- 60_exceptions R227: after a fault every command word is discarded. -/
theorem run_commands_of_faulted {s : State} {rest : List HostMove} (hb : s.busy = false) (hf : s.faulted = true)
    (cs : List (BitVec 32)) (hm : s.moves = cs.map HostMove.cmd ++ rest) :
    Host.Core.run Sys2Proof.core cs.length s = .next { s with moves := rest } := by
  induction cs generalizing s with
  | nil => rw [List.map_nil, List.nil_append] at hm; rw [← hm]; rfl
  | cons c cs ih =>
    exact run_succ_next.mpr ⟨_, step_command_of_faulted hb hf hm, ih (s := { s with moves := _ }) hb hf rfl⟩

theorem encode_apply : encode .apply = .command 0x40000000#32 := congrArg Encoded.command commandWord_apply

/-- Settles O5: each word is that of its SET command, which a ready block executes. -/
theorem setWordsAtTheCmdPortWriteTheirRegister : Obligations.SetWordsAtTheCmdPortWriteTheirRegister := by
  intro n s rest hready
  obtain ⟨-, hf⟩ := id hready
  refine ⟨?width, ?height, ?radius⟩
  case width =>
    intro hm
    rw [step_command_of_ready (i := .setw n) hready hm (congrArg Encoded.command (commandWord_setw n))]
    exact exec_setw_of_not_faulted (s := { s with moves := rest }) hf n
  case height =>
    intro hm
    rw [step_command_of_ready (i := .seth n) hready hm (congrArg Encoded.command (commandWord_seth n))]
    exact exec_seth_of_not_faulted (s := { s with moves := rest }) hf n
  case radius =>
    intro hm
    rw [step_command_of_ready (i := .setr n) hready hm (congrArg Encoded.command (commandWord_setr n))]
    exact exec_setr_of_not_faulted (s := { s with moves := rest }) hf n

/-- 45 R197: an APPLY of a non-empty image whose radius or size is bad raises InvalidArgument. -/
theorem exec_apply_of_bad_argument {s : State} (hready : Ready s) (hw : 1 ≤ s.widthNat) (hh : 1 ≤ s.heightNat)
    (hbad : (s.radiusNat < 1 ∨ 100 < s.radiusNat) ∨ s.cfg.cap < s.widthNat * s.heightNat) :
    ∃ t, exec .apply s = .next t ∧
      t.busy = false ∧ t.faulted = true ∧ t.cause = 1#4 ∧ t = { s with status := t.status } := by
  obtain ⟨-, hradius, hcapacity⟩ := applyChecksInOrder s hready
  by_cases hr : s.radiusNat < 1 ∨ 100 < s.radiusNat
  · obtain ⟨t, hexec, hb, hf, hcause, -, ht⟩ := hradius hw hh hr
    exact ⟨t, hexec, hb, hf, hcause, ht⟩
  · obtain ⟨t, hexec, hb, hf, hcause, -, ht⟩ :=
      hcapacity hw hh (by omega) (by omega) (hbad.resolve_left hr)
    exact ⟨t, hexec, hb, hf, hcause, ht⟩

/-- The three words of BLUR3. -/
theorem commandWords_blur3 : (commandWords blur3).map HostMove.cmd =
    [.cmd 0x40000000#32, .cmd 0x40000000#32, .cmd 0x40000000#32] := by decide

/-- Settles O41: the first APPLY raises, and the block, faulted, discards the other two. -/
theorem blur3AfterAFaultChangesNothing : Obligations.Blur3AfterAFaultChangesNothing := by
  intro s rest hready hm hw hh hbad
  rw [commandWords_blur3] at hm
  obtain ⟨t, hexec, hb, hf, hcause, ht⟩ := exec_apply_of_bad_argument
    (s := { s with moves := .cmd 0x40000000#32 :: .cmd 0x40000000#32 :: rest }) hready hw hh hbad
  have hfirst := (step_command_of_ready hready hm encode_apply).trans hexec
  have hothers : Host.Core.run Sys2Proof.core 2 t = .next { t with moves := rest } :=
    run_commands_of_faulted hb hf [0x40000000#32, 0x40000000#32] (congrArg State.moves ht)
  refine ⟨{ t with moves := rest }, run_succ_next.mpr ⟨t, hfirst, hothers⟩, hf, hcause, hb, ?_⟩
  rw [ht]

/-! ### APPLY -/

/-- 45 R196: on a ready block with legal parameters the three checks pass. -/
theorem exec_apply_of_legal {s : State} (hf : s.faulted = false) (hlegal : ParametersLegal s) :
    exec .apply s = .next (startApply s) := by
  obtain ⟨hw, hh, hlow, hhigh, hcap⟩ := hlegal
  have hlarge : tooLarge s = false := decide_eq_false (not_lt.mpr hcap)
  exact execApply_next.mpr (.inr (.inr (.inr (.inr
    ⟨hf, degenerate_eq_false_of_pos hw hh, badRadius_eq_false_of_legal hlow hhigh, hlarge, rfl⟩))))

/-- Settles O21: the state `startApply` makes, field by field. -/
theorem acceptedApplyStartsItsStream : Obligations.AcceptedApplyStartsItsStream := by
  intro s ⟨_, hf⟩ hlegal
  exact ⟨startApply s, exec_apply_of_legal hf hlegal, startApply_busy s, (startApply_faulted s).trans hf,
    statusCause_withBusy .., statusInfo_withBusy .., rfl, rfl, fun _ => rfl, fun _ => rfl, rfl⟩

/-! ### Reset -/

/-- Settles O49: the fields of a STATUS of 0. -/
theorem resetRegisters : Obligations.ResetRegisters :=
  fun _ => ⟨rfl, rfl, rfl, rfl, (by decide : statusBusy 0#32 = false), (by decide : statusFault 0#32 = false),
    (by decide : statusCause 0#32 = 0#4), (by decide : statusInfo 0#32 = 0#4)⟩

/-- Settles O47: the reset event on either path, its fields one by one. -/
theorem resetEventClearsTheRegisters : Obligations.ResetEventClearsTheRegisters := by
  intro s h
  rcases h with ⟨rest, hb, hm⟩ | ⟨rest, hb, hm⟩
  · have hstep : step s = .next (resetEvent { s with moves := rest }) :=
      (step_of_idle hb).trans (stepIdle_next.mpr (by simp [hm]))
    exact ⟨_, hstep, rfl, rfl, rfl, rfl, rfl, fun _ => rfl, fun _ => rfl⟩
  · have hstep : step s = .next (resetEvent { s with meanwhile := rest }) :=
      (step_of_busy hb).trans (stepBusy_next.mpr (by simp [hm]))
    exact ⟨_, hstep, rfl, rfl, rfl, rfl, rfl, fun _ => rfl, fun _ => rfl⟩

/-- The reset state is ready for a command. -/
theorem ready_resetWith (c : Config) : Ready (State.resetWith c) :=
  ⟨(by decide : statusBusy 0#32 = false), (by decide : statusFault 0#32 = false)⟩

/-- 70_reset R252: STATUS after the reset state's InvalidArgument with INFO 1. -/
theorem raise_invalidArgument_one_status {s : State} (h : s.status = 0#32) :
    (raise .invalidArgument 1#4 s).status = 0x00000112#32 := by
  rw [raise, State.withStatus_status, h]
  decide

theorem toNat_pos_of_ne_zero {w : Nat} {n : BitVec w} (h : n ≠ 0#w) : 1 ≤ n.toNat :=
  Nat.pos_of_ne_zero fun h0 => h (BitVec.eq_of_toNat_eq (h0.trans BitVec.toNat_zero.symm))

/-- Settles O48: the first check with nothing set; with the size set, the second check, whose radius is still 0. -/
theorem firstApplyAfterReset : Obligations.FirstApplyAfterReset := by
  intro c w h
  obtain ⟨hdegenerate, -⟩ := applyChecksInOrder (State.resetWith c) (ready_resetWith c)
  refine ⟨hdegenerate (.inl rfl), fun hw hh => ?_⟩
  have hready := ready_resetWith c
  have hsetw := (setWordsAtTheCmdPortWriteTheirRegister w
    { State.resetWith c with
      moves := [.cmd (0x1000#16 ++ w), .cmd (0x2000#16 ++ h), .cmd 0x40000000#32] } _ hready).1 rfl
  have hseth := (setWordsAtTheCmdPortWriteTheirRegister h
    { State.resetWith c with
      width := w, moves := [.cmd (0x2000#16 ++ h), .cmd 0x40000000#32] } _ hready).2.1 rfl
  have happly := (step_command_of_ready (rest := [])
    (s := { State.resetWith c with width := w, height := h, moves := [.cmd 0x40000000#32] })
    hready rfl encode_apply).trans
      (exec_apply_of_badRadius (s := { State.resetWith c with width := w, height := h }) hready.2
        (degenerate_eq_false_of_pos (toNat_pos_of_ne_zero hw) (toNat_pos_of_ne_zero hh))
        (badRadius_iff.mpr (.inl Nat.zero_lt_one)))
  rw [raise_withBusy] at happly
  exact ⟨_, run_succ_next.mpr ⟨_, hsetw, run_succ_next.mpr ⟨_, hseth, run_succ_next.mpr ⟨_, happly, rfl⟩⟩⟩,
    raise_invalidArgument_one_status rfl, rfl⟩

/-! ### Loads, stores and the PIX port -/

/-- Settles O16: the load reads the state the store left, at the store's word or at another. -/
theorem loadAfterStoreReturnsTheStoredWord : Obligations.LoadAfterStoreReturnsTheStoredWord := by
  intro m m' i j s t hstore hj
  obtain ⟨-, rfl⟩ := exec_stp_next.mp hstore
  refine ⟨_, exec_ldp_next.mpr ⟨by rwa [State.putWord_cfg], rfl⟩, ?same, ?other⟩
  case same =>
    rintro ⟨rfl, rfl⟩
    exact State.wordAt_putWord_same ..
  case other =>
    intro hne
    have hword : ¬(m' = m ∧ j.toNat = i.toNat) := fun h => hne ⟨h.1, BitVec.eq_of_toNat_eq h.2⟩
    exact (State.wordAt_putWord_other _ _ hword).trans (State.wordAt_advance ..)

/-- Settles O46: the port's read and write as the step's, by the one read and the one write of memory. -/
theorem pixPortReadsAndWritesBuf : Obligations.PixPortReadsAndWritesBuf := by
  intro s i v rest hb
  rw [step_of_idle hb]
  constructor
  case left =>
    intro hm hcap
    rw [stepIdle, hm]
    exact hostRead_next.mpr ⟨holds_iff_lt_cap.mpr hcap, rfl⟩
  case right =>
    intro hm hcap
    rw [stepIdle, hm]
    refine ⟨_, hostWrite_next.mpr ⟨holds_iff_lt_cap.mpr hcap, rfl⟩, State.wordAt_putWord_same .., ?others, rfl⟩
    case others => exact fun m' i' hother => State.wordAt_putWord_other _ _ hother

/-! ### The stops -/

theorem loadWord_of_cap_le {m : Space} {i : BitVec 32} {s : State} (h : s.cfg.cap ≤ i.toNat) (k : BitVec 32 → State) :
    loadWord m i s k = .fault (.noSuchWord m i) :=
  if_neg (holds_iff_lt_cap.not.mpr (not_lt.mpr h))

theorem storeWord_of_cap_le {m : Space} {i : BitVec 32} {s : State} (h : s.cfg.cap ≤ i.toNat) (v : BitVec 32) :
    storeWord m i v s = .fault (.noSuchWord m i) :=
  if_neg (holds_iff_lt_cap.not.mpr (not_lt.mpr h))

/-- Settles O17: the one load and the one store stop at an index beyond the memory, and the step at a bundle that the
decoder rejects. -/
theorem whatNamesNothingStopsByName : Obligations.WhatNamesNothingStopsByName := by
  refine ⟨?port, ?microOps, ?bundle⟩
  case port =>
    intro s i v rest hb hm hcap
    rw [step_of_idle hb, stepIdle]
    rcases hm with hm | hm
    · rw [hm]
      exact loadWord_of_cap_le (s := { s with moves := rest }) hcap _
    · rw [hm]
      exact storeWord_of_cap_le (s := { s with moves := rest }) hcap v
  case microOps =>
    intro m i s hcap
    rw [exec, exec, execLdp, execStp]
    exact ⟨loadWord_of_cap_le hcap _, storeWord_of_cap_le (s := s.advance) hcap s.px⟩
  case bundle =>
    intro s u r hb hm hfetch hdecode
    rw [step_of_busy hb, stepBusy, hm]
    simp only [stepMicroOp, hfetch, hdecode]

/-! ### A micro-op as a step -/

/-- While an APPLY runs and nothing else reaches the block, the step executes the micro-op fetched. -/
theorem step_microOp {s t : State} {u : BitVec 40} {i : Instr} (hb : s.busy = true) (hm : s.meanwhile = [])
    (hfetch : fetchBundle s = some u) (hdecode : decodeBundle u = .instr i) (hexec : exec i s = .next t) :
    step s = .next (retire t) :=
  (step_of_busy hb).trans
    (stepBusy_next.mpr (.inl ⟨hm, stepMicroOp_next.mpr (.inr ⟨u, i, t, hfetch, hdecode, hexec, rfl⟩)⟩))

/-- Settles O50: what follows the micro-op is `retire`, written out. -/
theorem stepRunsTheDecodedMicroOp : Obligations.StepRunsTheDecodedMicroOp :=
  fun _ _ _ _ hb hm hfetch hdecode hexec => step_microOp hb hm hfetch hdecode hexec

end Sys2Proof.Machine

/-! PROOF. Laws of the averages over a whole line and a whole image (42_accumulator R140, 44_line_filter R166, R167, R179,
45_apply_and_host_commands R199, R206). -/

namespace Sys2Proof.Machine

/-! ### Pixels by their channels -/

theorem pixel_ext_channelOf {w v : BitVec 32} (h : ∀ c, channelOf c w = channelOf c v) : w = v :=
  pixel_ext fun c => BitVec.eq_of_toNat_eq (h c)

/-! ### A radius that reaches the whole line -/

theorem window_of_le {n r p : Nat} (e : Evict) (hp : p < n) (hn : n ≤ r + 1) : window e n r p = List.range n := by
  have hge0 : window .ge0 n r p = List.range n := by
    rw [window_ge0_eq_range', List.range_eq_range', windowLo, windowHi]
    congr 1 <;> omega
  cases e with
  | ge0 => exact hge0
  | gt0 => rw [window_gt0_of_le (by omega), hge0]

/-- Settles O30: the window is the line, and so is its number of positions. -/
theorem longRadiusAveragesTheWholeLine : Obligations.LongRadiusAveragesTheWholeLine := by
  intro e n r p src hp hn
  have hwindow := window_of_le e hp hn
  have hcount : windowCount e n r p = n := by rw [← length_window e hp, hwindow, List.length_range]
  refine ⟨hwindow, fun c => ?_⟩
  rw [channelOf_linePixel e src c hp, lineAverage, windowSum, hwindow, hcount]

/-- Settles O31: every radius reaches the whole of a line of one pixel, and 1 the whole of a line of two. -/
theorem shortestLines : Obligations.ShortestLines := by
  intro e r src
  constructor
  case left =>
    obtain ⟨-, haverage⟩ := longRadiusAveragesTheWholeLine e 1 r 0 src Nat.zero_lt_one (Nat.le_add_left 1 r)
    refine pixel_ext_channelOf fun c => ?_
    simp [haverage]
  case right =>
    intro hr p hp c
    obtain ⟨-, haverage⟩ := longRadiusAveragesTheWholeLine e 2 r p src hp (Nat.succ_le_succ hr)
    simp [haverage, List.range_succ]

/-! ### Reversal of the line -/

/-- 44 R179: reversed, the window of `p` is the window of the mirrored position. -/
theorem map_reverse_window_ge0_perm {n r p : Nat} (hp : p < n) :
    ((window .ge0 n r p).map (n - 1 - ·)).Perm (window .ge0 n r (n - 1 - p)) := by
  have hp' : n - 1 - p < n := by omega
  have hinj : ∀ i ∈ window .ge0 n r p, ∀ j ∈ window .ge0 n r p, n - 1 - i = n - 1 - j → i = j := by
    intro i hi j hj hij
    rw [mem_window_ge0 hp] at hi hj
    omega
  rw [List.perm_ext_iff_of_nodup ((window_nodup .ge0 hp).map_on hinj) (window_nodup .ge0 hp')]
  intro i
  rw [List.mem_map, mem_window_ge0 hp']
  constructor
  · rintro ⟨j, hj, rfl⟩
    rw [mem_window_ge0 hp] at hj
    omega
  · intro hi
    exact ⟨n - 1 - i, (mem_window_ge0 hp).mpr (by omega), by omega⟩

theorem lineAverage_ge0_reverse {n r p : Nat} (hp : p < n) (f : Nat → Nat) :
    lineAverage .ge0 n r (fun i => f (n - 1 - i)) p = lineAverage .ge0 n r f (n - 1 - p) := by
  have hp' : n - 1 - p < n := by omega
  have hwindow := map_reverse_window_ge0_perm (r := r) hp
  have hcount : windowCount .ge0 n r p = windowCount .ge0 n r (n - 1 - p) := by
    rw [← length_window .ge0 hp, ← length_window .ge0 hp', ← hwindow.length_eq, List.length_map]
  have hsum : windowSum .ge0 n r (fun i => f (n - 1 - i)) p = windowSum .ge0 n r f (n - 1 - p) := by
    rw [windowSum, windowSum, ← (hwindow.map f).sum_eq, List.map_map]
    rfl
  rw [lineAverage, lineAverage, hsum, hcount]

/-- A line of three pixels, of which only the last has a channel that is not 0. -/
def lastLit (i : Nat) : BitVec 32 := if i = 2 then 0x000000FF#32 else 0#32

/-- Settles O35: under GE0 the window mirrors; under GT0 position 0 stays in the window of position 2, and reversal brings
the lit pixel there. -/
theorem reversalSymmetryHoldsUnderGe0Only : Obligations.ReversalSymmetryHoldsUnderGe0Only := by
  constructor
  case left =>
    intro n r p src hp
    have hp' : n - 1 - p < n := by omega
    refine pixel_ext_channelOf fun c => ?_
    rw [channelOf_linePixel _ _ _ hp, channelOf_linePixel _ _ _ hp']
    exact lineAverage_ge0_reverse hp fun i => channelOf c (src i)
  case right => exact ⟨3, 1, 2, lastLit, by decide, by decide⟩

/-! ### Bounds with a legal radius -/

/-- 42 R140: a channel is at most 255, so a sum is at most 255 for each position of the window. -/
theorem windowSum_channelOf_le (e : Evict) {n r p b : Nat} (src : Nat → BitVec 32) (c : Channel) (hp : p < n)
    (hb : windowCount e n r p ≤ b) : windowSum e n r (fun i => channelOf c (src i)) p ≤ 255 * b :=
  (windowSum_le hp fun i _ => channelOf_le c (src i)).trans (Nat.mul_le_mul_left 255 hb)

/-- Settles O36: the bounds of the count for a radius of at most 100, and 255 times them. -/
theorem windowSumsStayBounded : Obligations.WindowSumsStayBounded := by
  intro n r p src c hp _ hr
  have hge0 : windowCount .ge0 n r p ≤ 201 := (windowCount_ge0_le hp).trans (by omega)
  have hgt0 : windowCount .gt0 n r p ≤ 202 := (windowCount_le .gt0 hp).trans (by omega)
  exact ⟨hge0, windowSum_channelOf_le .ge0 src c hp hge0, hgt0, windowSum_channelOf_le .gt0 src c hp hgt0⟩

/-! ### Images -/

/-- An output depends on the pixels of its line only. -/
theorem linePixel_congr {e : Evict} {n r p : Nat} {src src' : Nat → BitVec 32} (hp : p < n)
    (h : ∀ i < n, src i = src' i) : linePixel e n r src p = linePixel e n r src' p := by
  refine pixel_ext_channelOf fun c => ?_
  exact (channelsDoNotMix e n r p src src' c hp).1 fun i hi => congrArg (channelOf c) (h i hi)

/-- 44 R176: a line of one pixel value is its own output. -/
theorem linePixel_const {e : Evict} {n r p : Nat} {src : Nat → BitVec 32} {v : BitVec 32} (hp : p < n)
    (h : ∀ i < n, src i = v) : linePixel e n r src p = v := by
  refine pixel_ext_channelOf fun c => ?_
  exact (constantLinesAreFixed e n r p src c (channelOf c v) hp fun i hi => congrArg (channelOf c) (h i hi)).2

/-- 45 R206: the blurred image depends on the pixels of the image only. -/
theorem blurredPixel_congr {e : Evict} {W H r : Nat} {img img' : Nat → Nat → BitVec 32}
    (h : ∀ y < H, ∀ x < W, img y x = img' y x) {y x : Nat} (hy : y < H) (hx : x < W) :
    blurredPixel e W H r img y x = blurredPixel e W H r img' y x :=
  linePixel_congr hy fun j hj => linePixel_congr hx fun i hi => h j hj i hi

/-- Settles O42: each row is fixed by the horizontal pass, and then each column by the vertical one. -/
theorem flatImagesAreUnchanged : Obligations.FlatImagesAreUnchanged :=
  fun _ _ _ _ _ _ hflat _ hy _ hx => linePixel_const hy fun j hj => linePixel_const hx fun i hi => hflat j hj i hi

end Sys2Proof.Machine

/-! PROOF. What the streams load and store (43_pixel_access R153, 44_line_filter R173, 45_apply_and_host_commands R202 to R204),
read off the three blocks a LINE is made of. -/

namespace Sys2Proof.Machine

/-! ### The micro-ops of a LINE -/

section Line

variable {e : Evict} {ms md m : Space} {base stride n r : Nat} {i : BitVec 32}

/-- 44 R170: a LINE is a WCLR and blocks at positions of the line. -/
theorem mem_uopsLine {u : Instr} (hn : 1 ≤ n) (hu : u ∈ uopsLine e ms md base stride n r) :
    u = .wclr ∨ ∃ p < n, u ∈ uopsAdmit ms base stride p ∨ u ∈ uopsEvict ms base stride p ∨
      u ∈ uopsEmit md base stride p := by
  rw [uopsLine, List.mem_cons, List.mem_append, List.mem_flatMap, List.mem_flatMap] at hu
  rcases hu with hu | ⟨p, hp, hu⟩ | ⟨p, hp, hu⟩
  · exact .inl hu
  · rw [List.mem_range] at hp
    exact .inr ⟨p, by omega, .inl hu⟩
  · rw [List.mem_range] at hp
    rw [uopsSlide_eq, List.mem_append, List.mem_append, List.mem_flatMap, List.mem_flatMap] at hu
    rcases hu with (⟨q, hq, hu⟩ | ⟨q, hq, hu⟩) | hu
    · obtain ⟨-, hqn, -⟩ := mem_slideAdmits.mp hq
      exact .inr ⟨q, hqn, .inl hu⟩
    · obtain ⟨-, rfl⟩ := mem_slideEvicts.mp hq
      exact .inr ⟨p - r - 1, by omega, .inr (.inl hu)⟩
    · exact .inr ⟨p, hp, .inr (.inr hu)⟩

theorem microOp_of_mem_uopsLine {u : Instr} (hn : 1 ≤ n) (hu : u ∈ uopsLine e ms md base stride n r) :
    u.isCommand = false := by
  rcases mem_uopsLine hn hu with rfl | ⟨p, -, hu⟩
  · rfl
  · simp only [uopsAdmit, uopsEvict, uopsEmit, List.mem_cons, List.not_mem_nil, or_false] at hu
    rcases hu with (rfl | rfl | rfl) | (rfl | rfl | rfl) | (rfl | rfl | rfl) <;> rfl

/-- A LINE loads positions of the line from its source. -/
theorem ldp_mem_uopsLine (hn : 1 ≤ n) (h : Instr.ldp m i ∈ uopsLine e ms md base stride n r) :
    m = ms ∧ ∃ p < n, i = lineIndex base stride p := by
  rcases mem_uopsLine hn h with h | ⟨p, hp, h⟩
  · exact absurd h Instr.noConfusion
  · have hload : m = ms ∧ i = lineIndex base stride p := by simpa [uopsAdmit, uopsEvict, uopsEmit] using h
    exact ⟨hload.1, p, hp, hload.2⟩

/-- A LINE stores positions of the line to its destination. -/
theorem stp_mem_uopsLine (hn : 1 ≤ n) (h : Instr.stp m i ∈ uopsLine e ms md base stride n r) :
    m = md ∧ ∃ p < n, i = lineIndex base stride p := by
  rcases mem_uopsLine hn h with h | ⟨p, hp, h⟩
  · exact absurd h Instr.noConfusion
  · have hstore : m = md ∧ i = lineIndex base stride p := by simpa [uopsAdmit, uopsEvict, uopsEmit] using h
    exact ⟨hstore.1, p, hp, hstore.2⟩

end Line

/-! ### The micro-ops of an APPLY -/

section Apply

variable {e : Evict} {W H r : Nat} {u : Instr}

theorem mem_uopsHpass : u ∈ uopsHpass e W H r ↔ ∃ y < H, u ∈ uopsLine e .buf .scr (y * W) 1 W r := by
  simp [uopsHpass]

theorem mem_uopsVpass : u ∈ uopsVpass e W H r ↔ ∃ x < W, u ∈ uopsLine e .scr .buf x W H r := by
  simp [uopsVpass]

theorem microOp_of_mem_uopsApply (hW : 1 ≤ W) (hH : 1 ≤ H) (hu : u ∈ uopsApply e W H r) : u.isCommand = false := by
  rcases List.mem_append.mp hu with hu | hu
  · obtain ⟨y, -, hu⟩ := mem_uopsHpass.mp hu
    exact microOp_of_mem_uopsLine hW hu
  · obtain ⟨x, -, hu⟩ := mem_uopsVpass.mp hu
    exact microOp_of_mem_uopsLine hH hu

/-- 20_memory R52: the row-major index of a pixel lies within the image. -/
theorem rowMajor_lt {x y : Nat} (hx : x < W) (hy : y < H) : y * W + x < W * H :=
  calc y * W + x
    _ < (y + 1) * W := by rw [Nat.succ_mul]; omega
    _ ≤ H * W := Nat.mul_le_mul_right W hy
    _ = W * H := Nat.mul_comm H W

theorem exists_pixel_of_lt {i : Nat} (hi : i < W * H) : ∃ y < H, ∃ x < W, i = y * W + x := by
  have hW : 0 < W := Nat.pos_of_mul_pos_right (Nat.zero_lt_of_lt hi)
  exact ⟨i / W, Nat.div_lt_of_lt_mul hi, i % W, Nat.mod_lt i hW, (Nat.div_add_mod' i W).symm⟩

/-- Position `x` of row `y` in the horizontal pass, and position `y` of column `x` in the vertical one, are pixel `(x, y)`. -/
theorem lineIndex_row (W x y : Nat) : lineIndex (y * W) 1 x = BitVec.ofNat 32 (y * W + x) := by
  rw [lineIndex, Nat.mul_one]

theorem lineIndex_column (W x y : Nat) : lineIndex x W y = BitVec.ofNat 32 (y * W + x) := by
  rw [lineIndex, Nat.add_comm]

/-- 43 R153: what an APPLY loads or stores is a pixel of the image. -/
theorem exists_pixel_of_access {m : Space} {i : BitVec 32} (hW : 1 ≤ W) (hH : 1 ≤ H)
    (h : Instr.ldp m i ∈ uopsApply e W H r ∨ Instr.stp m i ∈ uopsApply e W H r) :
    ∃ y < H, ∃ x < W, i = BitVec.ofNat 32 (y * W + x) := by
  have row {y : Nat} (hy : y < H) (h : ∃ x < W, i = lineIndex (y * W) 1 x) :
      ∃ y < H, ∃ x < W, i = BitVec.ofNat 32 (y * W + x) := by
    obtain ⟨x, hx, rfl⟩ := h
    exact ⟨y, hy, x, hx, lineIndex_row W x y⟩
  have column {x : Nat} (hx : x < W) (h : ∃ y < H, i = lineIndex x W y) :
      ∃ y < H, ∃ x < W, i = BitVec.ofNat 32 (y * W + x) := by
    obtain ⟨y, hy, rfl⟩ := h
    exact ⟨y, hy, x, hx, lineIndex_column W x y⟩
  simp only [uopsApply, List.mem_append, mem_uopsHpass, mem_uopsVpass] at h
  rcases h with (⟨y, hy, h⟩ | ⟨x, hx, h⟩) | (⟨y, hy, h⟩ | ⟨x, hx, h⟩)
  · exact row hy (ldp_mem_uopsLine hW h).2
  · exact column hx (ldp_mem_uopsLine hH h).2
  · exact row hy (stp_mem_uopsLine hW h).2
  · exact column hx (stp_mem_uopsLine hH h).2

end Apply

/-- Settles O24: the index is that of a pixel, which the bundle's field holds whole. -/
theorem streamIndicesNameWordsOfTheImage : Obligations.StreamIndicesNameWordsOfTheImage := by
  intro s ⟨hW, hH, _, _, hcap⟩ m i h
  obtain ⟨y, hy, x, hx, rfl⟩ := exists_pixel_of_access hW hH h
  have hpixel := rowMajor_lt hx hy
  have hword : s.cfg.cap ≤ 2 ^ 32 := s.cfg.lastIndex.isLt
  rw [BitVec.toNat_ofNat, Nat.mod_eq_of_lt (hpixel.trans_le (hcap.trans hword))]
  exact ⟨hpixel, hcap⟩

/-! ### The words a pass stores -/

theorem storedWords_flatMap {f : Nat → List Instr} (l : List Nat) :
    storedWords (l.flatMap f) = l.flatMap fun i => storedWords (f i) := by
  induction l with
  | nil => rfl
  | cons i l ih => rw [List.flatMap_cons, storedWords_append, ih, List.flatMap_cons]

/-- The rows of an image, one after the other, are its words in ascending order. -/
theorem flatMap_rows_eq_range (W H : Nat) :
    (List.range H).flatMap (fun y => (List.range W).map fun x => y * W + x) = List.range (W * H) := by
  induction H with
  | zero => rfl
  | succ H ih =>
    rw [List.range_succ, List.flatMap_append, ih, List.flatMap_singleton, Nat.mul_succ, List.range_add, Nat.mul_comm W H]

/-- The columns of a table hold what its rows hold. -/
theorem flatMap_map_swap_perm {α : Type} (f : Nat → Nat → α) (xs ys : List Nat) :
    (xs.flatMap fun x => ys.map fun y => f x y).Perm (ys.flatMap fun y => xs.map fun x => f x y) := by
  induction xs with
  | nil => simp
  | cons x xs ih =>
    simp only [List.flatMap_cons, List.map_cons]
    exact (ih.append_left _).trans (List.map_append_flatMap_perm ys (f x) fun y => xs.map fun x => f x y)

theorem storedWords_uopsHpass (e : Evict) (W H r : Nat) :
    storedWords (uopsHpass e W H r) = (List.range (W * H)).map fun i => (Space.scr, BitVec.ofNat 32 i) := by
  rw [uopsHpass, storedWords_flatMap, ← flatMap_rows_eq_range, List.map_flatMap]
  simp only [storedWords_uopsLine, lineIndex_row, List.map_map, Function.comp_def]

theorem storedWords_uopsVpass_perm (e : Evict) (W H r : Nat) :
    (storedWords (uopsVpass e W H r)).Perm ((List.range (W * H)).map fun i => (Space.buf, BitVec.ofNat 32 i)) := by
  rw [uopsVpass, storedWords_flatMap, ← flatMap_rows_eq_range, List.map_flatMap]
  simp only [storedWords_uopsLine, lineIndex_column, List.map_map, Function.comp_def]
  exact flatMap_map_swap_perm (fun x y => (Space.buf, BitVec.ofNat 32 (y * W + x))) (List.range W) (List.range H)

/-- Settles O25: the source and the destination of a pass's lines, and the lines' stores joined. -/
theorem eachPassStoresEachWordOnce : Obligations.EachPassStoresEachWordOnce := by
  intro e W H r hW hH _
  refine ⟨?rows, ?columns, storedWords_uopsHpass e W H r, storedWords_uopsVpass_perm e W H r⟩
  case rows =>
    intro m i h
    obtain ⟨y, -, h⟩ := mem_uopsHpass.mp h
    exact (ldp_mem_uopsLine hW h).1
  case columns =>
    intro m i h
    obtain ⟨x, -, h⟩ := mem_uopsVpass.mp h
    exact (ldp_mem_uopsLine hH h).1

/-! ### The state before a division -/

/-- 44 R173: a LINE's stream goes through the WDIV of each of its positions. -/
theorem exists_uopsLine_eq_toDivision_append (e : Evict) (ms md : Space) (base stride r : Nat) {n p : Nat} (hp : p < n) :
    ∃ rest, uopsLine e ms md base stride n r = uopsLineToDivision e ms md base stride n r p ++ .wdiv :: rest := by
  obtain ⟨later, hrange⟩ : ∃ later, List.range n = List.range p ++ p :: later := by
    obtain ⟨k, rfl⟩ := Nat.exists_eq_add_of_lt hp
    rw [Nat.add_assoc, List.range_add, List.range_succ_eq_map, List.map_cons]
    exact ⟨_, rfl⟩
  refine ⟨.pack :: .stp md (lineIndex base stride p) :: later.flatMap (uopsSlide e ms md base stride n r), ?_⟩
  simp only [uopsLine, uopsLineToDivision, hrange, List.flatMap_append, List.flatMap_cons, uopsSlide, uopsEmit,
    List.cons_append, List.append_assoc, List.nil_append]

/-- Settles O26: the state reached holds the positions of the window, and with a legal radius no sum wraps. -/
theorem windowHoldsBeforeEachDivision : Obligations.WindowHoldsBeforeEachDivision := by
  intro s ms md base stride n r p hne hstride _ hr hp hcap
  obtain ⟨t, ht, hat⟩ := runUops_uopsLineToDivision hne hstride hr hp hcap
  exact ⟨exists_uopsLine_eq_toDivision_append _ ms md base stride r hp, t, ht, hat.window.toNat_acc hp hr,
    hat.window.toNat_cnt hp hr⟩

end Sys2Proof.Machine

/-! PROOF. Executing the stream of an APPLY as one list of micro-ops (45_apply_and_host_commands R201 to R205): a pass is line
after line, no line writes what another line of the pass has written, and the second pass reads what the first has left. -/

namespace Sys2Proof.Machine

/-! ### Line after line -/

/-- `t` is reached from `s` by executing the first `k` lines of a pass to the space `md`; position `p` of line `l` is the word
`pos l p` and its output `out l p`. -/
structure PassState (s : State) (md : Space) (pos : Nat → Nat → Nat) (out : Nat → Nat → BitVec 32) (n k : Nat)
    (t : State) : Prop where
  registers : t = { s with
    px := t.px, ch := t.ch, q := t.q, acc := t.acc, cnt := t.cnt, upc := t.upc, buf := t.buf, scr := t.scr }
  outputs : ∀ l < k, ∀ p < n, t.wordAt md (pos l p) = out l p
  others : ∀ m i, ¬(m = md ∧ ∃ l < k, ∃ p < n, i = pos l p) → t.wordAt m i = s.wordAt m i

section Pass

variable {s t : State} {ms md : Space} {base : Nat → Nat} {stride n r k : Nat}

theorem PassState.cfg_eq {pos : Nat → Nat → Nat} {out : Nat → Nat → BitVec 32} (h : PassState s md pos out n k t) :
    t.cfg = s.cfg :=
  (congrArg State.cfg h.registers :)

/-- The output of line `l` of a pass over what `s` holds. -/
def State.passOutput (s : State) (ms : Space) (base : Nat → Nat) (stride n r l p : Nat) : BitVec 32 :=
  linePixel s.cfg.evict n r (fun i => s.wordAt ms (base l + i * stride)) p

/-- One more line: it reads the source as `s` has it, and its words are no other line's. -/
theorem PassState.succ (hne : ms ≠ md) (hstride : 1 ≤ stride) (hlow : 1 ≤ r) (hhigh : r ≤ 100) (hn : 1 ≤ n)
    (hcap : base k + (n - 1) * stride < s.cfg.cap)
    (hapart : ∀ l < k, ∀ p < n, ∀ q < n, base l + p * stride ≠ base k + q * stride)
    (h : PassState s md (fun l p => base l + p * stride) (s.passOutput ms base stride n r) n k t) :
    ∃ u, runUops (uopsLine s.cfg.evict ms md (base k) stride n r) t = .next u ∧
      PassState s md (fun l p => base l + p * stride) (s.passOutput ms base stride n r) n (k + 1) u := by
  obtain ⟨u, hrun, hout, hothers, hregs⟩ :=
    lineComputesTheWindowAverages t ms md (base k) stride n r hne hstride hlow hhigh hn (h.cfg_eq ▸ hcap)
  rw [runLine, h.cfg_eq] at hrun
  refine ⟨u, hrun, ?registers, ?outputs, ?others⟩
  case registers => rw [hregs, h.registers]
  case outputs =>
    intro l hl p hp
    rcases Nat.lt_succ_iff_lt_or_eq.mp hl with hlt | rfl
    · rw [hothers md _ fun ⟨_, q, hq, hword⟩ => hapart l hlt p hp q hq hword]
      exact h.outputs l hlt p hp
    · rw [hout p hp, State.passOutput, h.cfg_eq]
      exact linePixel_congr hp fun i _ => h.others ms _ fun hmd => hne hmd.1
  case others =>
    intro m i hi
    rw [hothers m i fun ⟨hm, q, hq, hword⟩ => hi ⟨hm, k, Nat.lt_succ_self k, q, hq, hword⟩]
    exact h.others m i fun ⟨hm, l, hl, hword⟩ => hi ⟨hm, l, Nat.lt_succ_of_lt hl, hword⟩

/-- A pass of `k` lines whose words are apart. -/
theorem runUops_lines (s : State) (hne : ms ≠ md) (hstride : 1 ≤ stride) (hlow : 1 ≤ r) (hhigh : r ≤ 100) (hn : 1 ≤ n)
    (hcap : ∀ l < k, base l + (n - 1) * stride < s.cfg.cap)
    (hapart : ∀ l < k, ∀ l' < k, ∀ p < n, ∀ q < n, base l + p * stride = base l' + q * stride → l = l') :
    ∃ t, runUops ((List.range k).flatMap fun l => uopsLine s.cfg.evict ms md (base l) stride n r) s = .next t ∧
      PassState s md (fun l p => base l + p * stride) (s.passOutput ms base stride n r) n k t := by
  induction k with
  | zero => exact ⟨s, rfl, rfl, fun l hl => absurd hl (Nat.not_lt_zero l), fun _ _ _ => rfl⟩
  | succ k ih =>
    obtain ⟨t, ht, hpass⟩ := ih (fun l hl => hcap l (Nat.lt_succ_of_lt hl))
      fun l hl l' hl' => hapart l (Nat.lt_succ_of_lt hl) l' (Nat.lt_succ_of_lt hl')
    obtain ⟨u, hu, hnext⟩ := hpass.succ hne hstride hlow hhigh hn (hcap k (Nat.lt_succ_self k))
      fun l hl p hp q hq hword =>
        hl.ne (hapart l (Nat.lt_succ_of_lt hl) k (Nat.lt_succ_self k) p hp q hq hword)
    rw [List.range_succ, List.flatMap_append, List.flatMap_singleton]
    exact ⟨u, runUops_append_next.mpr ⟨t, ht, hu⟩, hnext⟩

end Pass

/-! ### The two passes -/

section Image

variable {s : State} {W H r : Nat}

/-- Words of different pixels are apart: the index gives the column and the row back. -/
theorem rowMajor_inj {x x' y y' : Nat} (hx : x < W) (hx' : x' < W) (h : y * W + x = y' * W + x') : x = x' ∧ y = y' := by
  have hcolumn : x = x' :=
    calc x
      _ = (y * W + x) % W := (Nat.mul_add_mod_of_lt hx).symm
      _ = (y' * W + x') % W := by rw [h]
      _ = x' := Nat.mul_add_mod_of_lt hx'
  subst hcolumn
  exact ⟨rfl, Nat.eq_of_mul_eq_mul_right (Nat.zero_lt_of_lt hx) (Nat.add_right_cancel h)⟩

/-- 45 R202: the horizontal pass leaves in SCR the intermediate image. -/
theorem runUops_uopsHpass (s : State) (hW : 1 ≤ W) (hlow : 1 ≤ r) (hhigh : r ≤ 100) (hcap : W * H ≤ s.cfg.cap) :
    ∃ t, runUops (uopsHpass s.cfg.evict W H r) s = .next t ∧
      PassState s .scr (fun y x => y * W + x * 1) (s.passOutput .buf (· * W) 1 W r) W H t := by
  refine runUops_lines s (by decide) le_rfl hlow hhigh hW ?_ ?_
  · intro y hy
    have hlast : y * W + (W - 1) < W * H := rowMajor_lt (by omega) hy
    rw [Nat.mul_one]
    exact hlast.trans_le hcap
  · intro y _ y' _ x hx x' hx' hword
    rw [Nat.mul_one, Nat.mul_one] at hword
    exact (rowMajor_inj hx hx' hword).2

/-- 45 R203: the vertical pass leaves in BUF the vertical averages of what SCR holds. -/
theorem runUops_uopsVpass (s : State) (hW : 1 ≤ W) (hH : 1 ≤ H) (hlow : 1 ≤ r) (hhigh : r ≤ 100)
    (hcap : W * H ≤ s.cfg.cap) :
    ∃ t, runUops (uopsVpass s.cfg.evict W H r) s = .next t ∧
      PassState s .buf (fun x y => x + y * W) (s.passOutput .scr id W H r) H W t := by
  refine runUops_lines s (base := id) (by decide) hW hlow hhigh hH ?_ ?_
  · intro x hx
    have hlast : (H - 1) * W + x < W * H := rowMajor_lt hx (by omega)
    rw [id, Nat.add_comm]
    exact hlast.trans_le hcap
  · intro x hx x' hx' y _ y' _ hword
    rw [id, id, Nat.add_comm x, Nat.add_comm x'] at hword
    exact (rowMajor_inj hx hx' hword).1

/-- 45 R205: executing the stream leaves the blurred image in BUF and every other word of BUF as it was. -/
theorem runUops_uopsApply (hlegal : ParametersLegal s) :
    ∃ t, runUops (uopsApply s.cfg.evict s.widthNat s.heightNat s.radiusNat) s = .next t ∧
      t = { s with
        px := t.px, ch := t.ch, q := t.q, acc := t.acc, cnt := t.cnt, upc := t.upc, buf := t.buf, scr := t.scr } ∧
      (∀ y < s.heightNat, ∀ x < s.widthNat, t.wordAt .buf (y * s.widthNat + x) =
        blurredPixel s.cfg.evict s.widthNat s.heightNat s.radiusNat s.image y x) ∧
      (∀ i, s.widthNat * s.heightNat ≤ i → t.wordAt .buf i = s.wordAt .buf i) := by
  obtain ⟨hW, hH, hlow, hhigh, hcap⟩ := hlegal
  obtain ⟨t, ht, hrows⟩ := runUops_uopsHpass s hW hlow hhigh hcap
  obtain ⟨u, hu, hcolumns⟩ := runUops_uopsVpass t hW hH hlow hhigh (hrows.cfg_eq ▸ hcap)
  rw [hrows.cfg_eq] at hu
  refine ⟨u, runUops_append_next.mpr ⟨t, ht, hu⟩, ?registers, ?image, ?others⟩
  case registers => rw [hcolumns.registers, hrows.registers]
  case image =>
    intro y hy x hx
    rw [Nat.add_comm, hcolumns.outputs x hx y hy, State.passOutput, hrows.cfg_eq, blurredPixel]
    refine linePixel_congr hy fun j hj => ?_
    calc t.wordAt .scr (x + j * s.widthNat)
      _ = t.wordAt .scr (j * s.widthNat + x * 1) := by rw [Nat.mul_one, Nat.add_comm]
      _ = s.passOutput .buf (· * s.widthNat) 1 s.widthNat s.radiusNat j x := hrows.outputs j hj x hx
      _ = horizontalPixel s.cfg.evict s.widthNat s.radiusNat s.image j x := by
        simp only [State.passOutput, horizontalPixel, State.image, Nat.mul_one]
  case others =>
    intro i hi
    have hout : ¬∃ x < s.widthNat, ∃ y < s.heightNat, i = x + y * s.widthNat := by
      rintro ⟨x, hx, y, hy, rfl⟩
      have hpixel := rowMajor_lt hx hy
      omega
    rw [hcolumns.others .buf i fun h => hout h.2]
    exact hrows.others .buf i fun h => absurd h.1 (by decide)

end Image

end Sys2Proof.Machine

/-! PROOF. An APPLY from the CMD port to its completion (45_apply_and_host_commands R196, R205 to R207, 42_accumulator R136):
the step that accepts it, then one step for each micro-op of its stream. Since only a fault clears BUSY in mid-stream, and none
sets it again, a list of micro-ops that ends with BUSY 1 has raised no fault on the way. -/

namespace Sys2Proof.Machine

/-! ### A micro-op without a fault -/

/-- A micro-op after which BUSY is 1 writes the datapath and the memories only, and adds 1 to UPC. -/
theorem exec_microOp_frame {i : Instr} {s t : State} (hi : i.isCommand = false) (h : exec i s = .next t)
    (hb : t.busy = true) :
    t = { s with
      px := t.px, ch := t.ch, q := t.q, acc := t.acc, cnt := t.cnt, upc := s.upc + 1, buf := t.buf, scr := t.scr } := by
  cases i with
  | setw | seth | setr | apply => exact absurd hi Bool.noConfusion
  | ldp =>
    obtain ⟨-, rfl⟩ := exec_ldp_next.mp h
    rfl
  | stp =>
    obtain ⟨-, rfl⟩ := exec_stp_next.mp h
    rw [State.putWord_eq_with_spaces]
    rfl
  | unpk => obtain rfl := exec_unpk_next.mp h; rfl
  | pack => obtain rfl := exec_pack_next.mp h; rfl
  | wclr => obtain rfl := exec_wclr_next.mp h; rfl
  | wadd => obtain rfl := exec_wadd_next.mp h; rfl
  | wsub => obtain rfl := exec_wsub_next.mp h; rfl
  | wdiv =>
    by_cases hcnt : s.cnt = 0#32
    · obtain rfl := (exec_wdiv_of_cnt_zero hcnt).mp h
      exact absurd (hb.symm.trans (raise_busy ..)) Bool.noConfusion
    · obtain rfl := (exec_wdiv_of_cnt_ne_zero hcnt).mp h
      rfl

/-- STATUS stands where BUSY does. -/
theorem exec_microOp_status {i : Instr} {s t : State} (hi : i.isCommand = false) (h : exec i s = .next t)
    (hb : t.busy = true) : t.status = s.status :=
  (congrArg State.status (exec_microOp_frame hi h hb) :)

theorem status_of_runUops {is : List Instr} {s t : State} (his : ∀ i ∈ is, i.isCommand = false)
    (h : runUops is s = .next t) (hb : t.busy = true) : t.status = s.status := by
  induction is generalizing s with
  | nil => exact congrArg State.status (Host.Outcome.next.inj h).symm
  | cons i is ih =>
    obtain ⟨u, hexec, hrun⟩ := runUops_cons_next.mp h
    have hstatus : t.status = u.status := ih (fun j hj => his j (List.mem_cons_of_mem i hj)) hrun
    have hbusy : u.busy = true := (congrArg statusBusy hstatus).symm.trans hb
    exact hstatus.trans (exec_microOp_status (his i List.mem_cons_self) hexec hbusy)

theorem busy_of_runUops {is : List Instr} {s t : State} (his : ∀ i ∈ is, i.isCommand = false)
    (h : runUops is s = .next t) (hb : t.busy = true) : s.busy = true :=
  (congrArg statusBusy (status_of_runUops his h hb)).symm.trans hb

/-! ### A block that is to execute a list of micro-ops -/

/-- An APPLY runs, nothing else reaches the block, and the micro-ops `is` are the rest of its stream. -/
structure Ahead (is : List Instr) (s : State) : Prop where
  busy : s.busy = true
  alone : s.meanwhile = []
  stream : s.stream.drop s.upc = is.map bundleOf
  microOps : ∀ i ∈ is, i.isCommand = false

section Ahead

variable {i : Instr} {is : List Instr} {s t : State}

theorem Ahead.fetch (h : Ahead (i :: is) s) : fetchBundle s = some (bundleOf i) := by
  have hhead : (s.stream.drop s.upc)[0]? = some (bundleOf i) := by rw [h.stream]; rfl
  rwa [List.getElem?_drop] at hhead

/-- The bundle fetched is that of the first micro-op, so the step executes it. -/
theorem Ahead.step (h : Ahead (i :: is) s) (hexec : exec i s = .next t) : step s = .next (retire t) :=
  step_microOp h.busy h.alone h.fetch (decodeBundle_bundleOf (h.microOps i List.mem_cons_self)) hexec

theorem Ahead.next (h : Ahead (i :: is) s) (hexec : exec i s = .next t) (hb : t.busy = true) : Ahead is t := by
  have hframe := exec_microOp_frame (h.microOps i List.mem_cons_self) hexec hb
  refine ⟨hb, ?alone, ?stream, fun j hj => h.microOps j (List.mem_cons_of_mem i hj)⟩
  case alone =>
    rw [hframe]
    exact h.alone
  case stream =>
    rw [hframe]
    calc s.stream.drop (s.upc + 1)
      _ = (s.stream.drop s.upc).drop 1 := List.drop_drop.symm
      _ = is.map bundleOf := by rw [h.stream]; rfl

/-- While micro-ops are ahead the APPLY goes on. -/
theorem Ahead.retire_cons (h : Ahead (i :: is) s) : retire s = s := by
  have hlen := congrArg List.length h.stream
  simp only [List.length_drop, List.length_map, List.length_cons] at hlen
  exact if_pos ⟨h.busy, by omega⟩

/-- With none ahead it has ended. -/
theorem Ahead.retire_nil (h : Ahead [] s) : retire s = endApply s := by
  have hend := List.drop_eq_nil_iff.mp h.stream
  exact if_neg fun hmore => by omega

/-- The first `k` of the micro-ops ahead are `k` steps. -/
theorem Ahead.run_of_lt (h : Ahead is s) (hrun : runUops is s = .next t) (hb : t.busy = true) {k : Nat}
    (hk : k < is.length) :
    ∃ u : State, Host.Core.run Sys2Proof.core k s = .next u ∧ Ahead (is.drop k) u ∧ runUops (is.drop k) u = .next t := by
  induction k generalizing is s with
  | zero => exact ⟨s, rfl, h, hrun⟩
  | succ k ih =>
    match is with
    | i :: j :: is =>
      obtain ⟨u, hexec, hrest⟩ := runUops_cons_next.mp hrun
      have hbusy := busy_of_runUops (fun l hl => h.microOps l (List.mem_cons_of_mem i hl)) hrest hb
      have hnext := h.next hexec hbusy
      have hstep := h.step hexec
      rw [hnext.retire_cons] at hstep
      obtain ⟨v, hv, hahead, hlast⟩ := ih hnext hrest (Nat.lt_of_succ_lt_succ hk)
      exact ⟨v, run_succ_next.mpr ⟨u, hstep, hv⟩, hahead, hlast⟩

/-- All the micro-ops ahead are as many steps, and the last one ends the APPLY. -/
theorem Ahead.run (h : Ahead is s) (hne : is ≠ []) (hrun : runUops is s = .next t) (hb : t.busy = true) :
    Host.Core.run Sys2Proof.core is.length s = .next (endApply t) := by
  obtain ⟨js, i, rfl⟩ : ∃ js i, is = js ++ [i] := ⟨_, _, (List.dropLast_concat_getLast hne).symm⟩
  obtain ⟨u, hu, hahead, hlast⟩ := h.run_of_lt hrun hb (k := js.length) (by simp)
  rw [List.drop_left] at hahead hlast
  obtain ⟨v, hexec, hv⟩ := runUops_cons_next.mp hlast
  obtain rfl := Host.Outcome.next.inj hv
  have hstep := hahead.step hexec
  rw [(hahead.next hexec hb).retire_nil] at hstep
  rw [List.length_append]
  exact run_add_next hu (run_succ_next.mpr ⟨_, hstep, rfl⟩)

/-- Where a division is next the count is not 0: it would raise a fault, which clears BUSY. -/
theorem Ahead.cnt_ne_zero (h : Ahead is s) (hrun : runUops is s = .next t) (hb : t.busy = true)
    (hfetch : fetchBundle s = some (bundleOf .wdiv)) : s.cnt ≠ 0#32 := by
  intro hcnt
  cases is with
  | nil =>
    have hend := List.drop_eq_nil_iff.mp h.stream
    rw [fetchBundle, List.getElem?_eq_none hend] at hfetch
    exact absurd hfetch (Option.some_ne_none _).symm
  | cons i is =>
    have hi := decodeBundle_bundleOf (h.microOps i List.mem_cons_self)
    rw [Option.some.inj (h.fetch.symm.trans hfetch), decodeBundle_bundleOf rfl] at hi
    obtain rfl := Decoded.instr.inj hi
    obtain ⟨u, hexec, hrest⟩ := runUops_cons_next.mp hrun
    obtain rfl := (exec_wdiv_of_cnt_zero hcnt).mp hexec
    have hbusy := busy_of_runUops (fun j hj => h.microOps j (List.mem_cons_of_mem _ hj)) hrest hb
    exact absurd (hbusy.symm.trans (raise_busy ..)) Bool.noConfusion

end Ahead

/-! ### The APPLY at the CMD port -/

theorem length_uopsApply (e : Evict) {W H r : Nat} (hW : 1 ≤ W) (hH : 1 ≤ H) (hr : 1 ≤ r) :
    (uopsApply e W H r).length = applyCost e W H r := by
  obtain ⟨-, hlength, -⟩ := applyStreamCost e W H r hW hH hr
  exact hlength

/-- The state in which an accepted APPLY begins. -/
abbrev State.accepted (s : State) (rest : List HostMove) : State := startApply { s with moves := rest }

section Accepted

variable {s : State} {rest : List HostMove}

theorem step_apply (hready : Ready s) (hm : NextCommand s 0x40000000#32 rest) (hlegal : ParametersLegal s) :
    step s = .next (s.accepted rest) :=
  (step_command_of_ready hready hm encode_apply).trans (exec_apply_of_legal hready.2 hlegal)

theorem ahead_accepted (rest : List HostMove) (halone : s.meanwhile = []) (hlegal : ParametersLegal s) :
    Ahead (uopsApply s.cfg.evict s.widthNat s.heightNat s.radiusNat) (s.accepted rest) :=
  have ⟨hW, hH, _⟩ := hlegal
  ⟨startApply_busy _, halone, rfl, fun _ => microOp_of_mem_uopsApply hW hH⟩

/-- A state whose STATUS is that of the accepted APPLY is busy. -/
theorem busy_of_accepted {t : State} (h : t.status = (s.accepted rest).status) : t.busy = true :=
  (congrArg statusBusy h).trans (startApply_busy _)

/-- The end of the APPLY takes back the BUSY of its start. -/
theorem status_endApply_of_accepted (hready : Ready s) {t : State} (h : t.status = (s.accepted rest).status) :
    (endApply t).status = s.status := by
  rw [endApply_status, h, startApply_status, statusWithBusy_withBusy, ← hready.1]
  exact statusWithBusy_self s.status

/-- What executing the stream of the accepted APPLY leaves, in the terms of the state before it. -/
theorem runUops_accepted (rest : List HostMove) (hlegal : ParametersLegal s) :
    ∃ t, runUops (uopsApply s.cfg.evict s.widthNat s.heightNat s.radiusNat) (s.accepted rest) = .next t ∧
      t = { s.accepted rest with
        px := t.px, ch := t.ch, q := t.q, acc := t.acc, cnt := t.cnt, upc := t.upc, buf := t.buf, scr := t.scr } ∧
      (∀ y < s.heightNat, ∀ x < s.widthNat, t.wordAt .buf (y * s.widthNat + x) =
        blurredPixel s.cfg.evict s.widthNat s.heightNat s.radiusNat s.image y x) ∧
      (∀ i, s.widthNat * s.heightNat ≤ i → t.wordAt .buf i = s.wordAt .buf i) :=
  runUops_uopsApply (s := s.accepted rest) hlegal

end Accepted

/-- Settles O37: the acceptance, the stream, and the end of the APPLY after its last micro-op. -/
theorem applyBlursTheImage : Obligations.ApplyBlursTheImage := by
  intro s rest hready hm halone hlegal
  obtain ⟨hW, hH, hr, -⟩ := id hlegal
  obtain ⟨t, hrun, hframe, himage, hothers⟩ := runUops_accepted rest hlegal
  have hstatus : t.status = (s.accepted rest).status := (congrArg State.status hframe :)
  have hbusy := busy_of_accepted hstatus
  have hne : uopsApply s.cfg.evict s.widthNat s.heightNat s.radiusNat ≠ [] := fun hnil =>
    bundlesApply_ne_nil s.cfg.evict s.widthNat s.radiusNat hH (congrArg (List.map bundleOf) hnil)
  have hsteps := (ahead_accepted rest halone hlegal).run hne hrun hbusy
  rw [length_uopsApply _ hW hH hr] at hsteps
  refine ⟨endApply t, ?run, himage, hothers, ?scratch, ?registers⟩
  case run =>
    have hstart : Host.Core.run Sys2Proof.core 1 s = .next (s.accepted rest) :=
      run_succ_next.mpr ⟨_, step_apply hready hm hlegal, rfl⟩
    exact run_add_next hstart hsteps
  case scratch =>
    rw [hframe]
    exact fun _ => rfl
  case registers =>
    exact ⟨(congrArg State.width hframe :), (congrArg State.height hframe :), (congrArg State.radius hframe :),
      status_endApply_of_accepted hready hstatus, (congrArg State.cfg hframe :), (congrArg State.bufDraw hframe :),
      (congrArg State.moves hframe :), (congrArg State.meanwhile hframe :).trans halone, (congrArg State.reply hframe :)⟩

/-- Settles O38: both results are the blur of the active region, and the blur depends on nothing else. -/
theorem applyResultDependsOnTheImageOnly : Obligations.ApplyResultDependsOnTheImageOnly := by
  intro s s' rest rest' hready hm halone hlegal hready' hm' halone' hlegal' hevict hwidth hheight hradius hagree
  obtain ⟨t, hrun, himage, -⟩ := applyBlursTheImage s rest hready hm halone hlegal
  obtain ⟨t', hrun', himage', -⟩ := applyBlursTheImage s' rest' hready' hm' halone' hlegal'
  have hW : s'.widthNat = s.widthNat := congrArg BitVec.toNat hwidth
  have hH : s'.heightNat = s.heightNat := congrArg BitVec.toNat hheight
  have hR : s'.radiusNat = s.radiusNat := congrArg BitVec.toNat hradius
  rw [hevict, hW, hH, hR] at hrun' himage'
  refine ⟨t, t', hrun, hrun', fun i hi => ?_⟩
  obtain ⟨y, hy, x, hx, rfl⟩ := exists_pixel_of_lt hi
  rw [himage y hy x hx, himage' y hy x hx]
  refine blurredPixel_congr (fun j hj k hk => ?_) hy hx
  rw [State.image, State.image, hW, hagree _ (rowMajor_lt hk hj)]

/-- Settles O39: before its completion the APPLY has the rest of its stream ahead, which ends with BUSY 1. -/
theorem noApplyDividesByZero : Obligations.NoApplyDividesByZero := by
  intro s rest hready hm halone hlegal k hk
  obtain ⟨hidle, hfault⟩ := id hready
  obtain ⟨hW, hH, hr, -⟩ := id hlegal
  rw [← length_uopsApply _ hW hH hr] at hk
  obtain ⟨t, hrun, hframe, -⟩ := runUops_accepted rest hlegal
  have hstatus : t.status = (s.accepted rest).status := (congrArg State.status hframe :)
  have hbusy := busy_of_accepted hstatus
  have hahead := ahead_accepted rest halone hlegal
  have hstart := step_apply hready hm hlegal
  cases k with
  | zero => exact ⟨s, rfl, hfault, fun hb => absurd (hb.symm.trans hidle) Bool.noConfusion⟩
  | succ k =>
    rcases Nat.lt_or_ge k (uopsApply s.cfg.evict s.widthNat s.heightNat s.radiusNat).length with hlt | hge
    · obtain ⟨u, hu, hrest, hlast⟩ := hahead.run_of_lt hrun hbusy hlt
      have hsame : u.status = (s.accepted rest).status :=
        (status_of_runUops hrest.microOps hlast hbusy).symm.trans hstatus
      exact ⟨u, run_succ_next.mpr ⟨_, hstart, hu⟩, (congrArg statusFault hsame).trans ((startApply_faulted _).trans hfault),
        fun _ hfetch => toNat_pos_of_ne_zero (hrest.cnt_ne_zero hlast hbusy hfetch)⟩
    · obtain ⟨t', hrun', -, -, -, -, -, -, hstatus', -⟩ := applyBlursTheImage s rest hready hm halone hlegal
      obtain rfl : k = (uopsApply s.cfg.evict s.widthNat s.heightNat s.radiusNat).length := by omega
      rw [length_uopsApply _ hW hH hr, Nat.add_comm]
      exact ⟨t', hrun', (congrArg statusFault hstatus').trans hfault,
        fun hb => absurd (((congrArg statusBusy hstatus').symm.trans hb).symm.trans hidle) Bool.noConfusion⟩

/-! ### Several APPLYs in a row -/

/-- Images that agree on their pixels stay so under the blur, however often. -/
theorem iterate_blurredPixel_congr {e : Evict} {W H r : Nat} {img img' : Nat → Nat → BitVec 32}
    (h : ∀ y < H, ∀ x < W, img y x = img' y x) (k : Nat) :
    ∀ y < H, ∀ x < W, (blurredPixel e W H r)^[k] img y x = (blurredPixel e W H r)^[k] img' y x := by
  induction k generalizing img img' with
  | zero => exact h
  | succ k ih => exact ih fun y hy x hx => blurredPixel_congr h hy hx

/-- 45 R207: each APPLY finds the block as the one before it found it, and the image that one left. -/
theorem run_applies {s : State} {rest : List HostMove} (k : Nat) (hready : Ready s)
    (hm : s.moves = List.replicate k (.cmd 0x40000000#32) ++ rest) (halone : s.meanwhile = [])
    (hlegal : ParametersLegal s) :
    ∃ t, Host.Core.run Sys2Proof.core (k * (1 + applyCost s.cfg.evict s.widthNat s.heightNat s.radiusNat)) s = .next t ∧
      (∀ y < s.heightNat, ∀ x < s.widthNat, t.wordAt .buf (y * s.widthNat + x) =
        (blurredPixel s.cfg.evict s.widthNat s.heightNat s.radiusNat)^[k] s.image y x) ∧
      (∀ i, s.widthNat * s.heightNat ≤ i → t.wordAt .buf i = s.wordAt .buf i) ∧
      t.width = s.width ∧ t.height = s.height ∧ t.radius = s.radius ∧ t.status = s.status ∧ t.moves = rest := by
  induction k generalizing s with
  | zero =>
    rw [Nat.zero_mul]
    exact ⟨s, rfl, fun _ _ _ _ => rfl, fun _ _ => rfl, rfl, rfl, rfl, rfl, hm⟩
  | succ k ih =>
    obtain ⟨(t : State), hrun, himage, hothers, -, hwidth, hheight, hradius, hstatus, hcfg, -, hmoves, halone', -⟩ :=
      applyBlursTheImage s _ hready hm halone hlegal
    have hW : t.widthNat = s.widthNat := congrArg BitVec.toNat hwidth
    have hH : t.heightNat = s.heightNat := congrArg BitVec.toNat hheight
    have hR : t.radiusNat = s.radiusNat := congrArg BitVec.toNat hradius
    have hready' : Ready t := 
      ⟨(congrArg statusBusy hstatus).trans hready.1, (congrArg statusFault hstatus).trans hready.2⟩
    have hlegal' : ParametersLegal t := by simpa only [ParametersLegal, hW, hH, hR, hcfg] using hlegal
    obtain ⟨u, hrun', himage', hothers', hwidth', hheight', hradius', hstatus', hmoves'⟩ :=
      ih hready' hmoves halone' hlegal'
    rw [hW, hH, hR, hcfg] at hrun'
    rw [hW, hH, hR, hcfg] at himage'
    rw [hW, hH] at hothers'
    refine ⟨u, ?run, ?image, fun i hi => (hothers' i hi).trans (hothers i hi), hwidth'.trans hwidth,
      hheight'.trans hheight, hradius'.trans hradius, hstatus'.trans hstatus, hmoves'⟩
    case run =>
      rw [Nat.succ_mul, Nat.add_comm]
      exact run_add_next hrun hrun'
    case image =>
      intro y hy x hx
      rw [himage' y hy x hx, Function.iterate_succ_apply]
      refine iterate_blurredPixel_congr (fun j hj i hi => ?_) k y hy x hx
      rw [State.image, hW]
      exact himage j hj i hi

/-- Settles O40: BLUR3 is three APPLYs. -/
theorem blur3BlursThreeTimes : Obligations.Blur3BlursThreeTimes := by
  intro s rest hready hm halone hlegal
  rw [commandWords_blur3] at hm
  obtain ⟨t, hrun, himage, hkept⟩ := run_applies 3 hready hm halone hlegal
  refine ⟨t, hrun, fun y hy x hx => ?_, hkept⟩
  rw [himage y hy x hx, Function.iterate_succ_apply, Function.iterate_succ_apply, Function.iterate_one]

end Sys2Proof.Machine
